-- ==== Sys2Proof/Word.lean ====
section
/-! DEFINITION. The two widths of the core (00_scope.md R10): an 8-bit byte and a 16-bit word. All values are
unsigned and sums wrap (R13), which is `BitVec` arithmetic. -/

namespace Sys2Proof

/-- A `u8`: a register, a memory byte, an opcode, an operand byte (00_scope.md R10, R13). -/
abbrev Byte := BitVec 8

/-- A `u16`: the program counter and every address (00_scope.md R10, R13). -/
abbrev Word := BitVec 16

end Sys2Proof
end

