-- ==== Sys2Proof/Config.lean ====
section
/-! DEFINITION. The parameters of the model (00_scope.md R11): three the spec decides, and the values it leaves
open, which are opaque constants, so that no proof can know them. -/

namespace Sys2Proof.Config

/-- `STACK_BASE`, the address of the stack page. DESIGN CHOICE made by the spec (D1, C3), log 1; unsafe. -/
def stackBase : Word := 0x0100

/-- `JMP_IND_PAGE_WRAP`: whether the second pointer byte of JMP indirect stays in the pointer's page.
DESIGN CHOICE made by the spec (D7): false, what the source does. Log 2; unsafe. -/
def jmpIndPageWrap : Bool := false

/-- `ZP_PTR_WRAP`: whether zero-page pointer location 0xFF is followed by 0x00.
DESIGN CHOICE made by the spec (D8): true. Log 3; unsafe. -/
def zpPtrWrap : Bool := true

/-- `STATUS_BIT5`, the bit packed at position 5 of the status byte: OPEN (10_state.md R24, D9), a free value.
Log 4; safe. -/
opaque statusBit5 : Bool

/-- What one ADC with D = 1 draws (47_arithmetic.md R132): the accumulator and the four flags. -/
structure AdcDraw where
  acc : Byte
  carry : Bool
  zero : Bool
  negative : Bool
  overflow : Bool
  deriving DecidableEq, Repr, Inhabited

/-- `adc_overflow`, the V flag of the n-th ADC (47_arithmetic.md R131, D5): a free value. Log 5; safe. -/
opaque adcOverflow : Nat → Bool

/-- `adc_decimal`, everything the n-th ADC writes when it runs with D = 1 (47_arithmetic.md R132, D6): a free
value. Log 6; safe. -/
opaque adcDecimal : Nat → AdcDraw

end Sys2Proof.Config
end

