-- ==== Sys2Proof/Machine/State.lean ====
section
/-! DEFINITION. The state of one machine instance (10_state.md R18, R33): the register file, the memory space, the mark
of `initialize()`, the model's fault record and its draw counter. All of it is plain data. -/

namespace Sys2Proof.Machine

/-- The memory space, 65536 bytes (20_memory.md R35), as (address, byte) pairs with addresses strictly rising and
no byte equal to what an unlisted address reads as (`Memory.wf` in Machine/Ops.lean). -/
abbrev Memory := List Host.Cell

/-- The register file of 10_state.md R18, the memory of 20_memory.md R35, the mark of 70_reset_and_hazards.md R151 and the
model's two records. -/
structure State where
  /-- Program counter, the address of the next byte to fetch (R20). -/
  pc : Word
  /-- Stack pointer, the low byte of the stack address (R22). -/
  sp : Byte
  /-- Accumulator (R19). -/
  acc : Byte
  /-- Index register X (R19). -/
  x : Byte
  /-- Index register Y (R19). -/
  y : Byte
  /-- Carry (R23). -/
  flagC : Bool
  /-- Zero (R23). -/
  flagZ : Bool
  /-- Interrupt-disable (R23). -/
  flagI : Bool
  /-- Decimal (R23). -/
  flagD : Bool
  /-- Break (R23). -/
  flagB : Bool
  /-- Overflow (R23). -/
  flagV : Bool
  /-- Negative (R23). -/
  flagN : Bool
  /-- Instruction register: the opcode latched by the last fetch (R27). -/
  ir : Byte
  /-- Low byte of the resolved-operand pair, or the immediate value (R28). -/
  tl : Byte
  /-- High byte of the resolved-operand pair (R28). -/
  th : Byte
  /-- The memory space (20_memory.md R35). -/
  mem : Memory
  /-- Whether the host's `initialize()` has built the opcode table (70_reset_and_hazards.md R151, 30_encoding.md R56). It is no
  register: no instruction, and no host operation but `initialize()`, writes it. -/
  initialized : Bool
  /-- Unknown-opcode reports (address of the byte, the byte), oldest first, never cleared (60_exceptions.md R136). -/
  faultRecord : List (Word × Byte)
  /-- The model's own field: how many ADC draws were taken; it indexes Config's free values (log 7). -/
  draws : Nat
  deriving DecidableEq, Repr

/-- Faults: there are none. No access is out of range (20_memory.md R37), resolvers and executors never fail
(40_addressing.md R68, 30_encoding.md R63) and the core raises nothing but the non-fatal unknown-opcode report
(60_exceptions.md R137), which is a next state. So nobody raises one, and nothing is unsafe about it. -/
inductive Fault
  deriving DecidableEq, Repr

/-- Refusals. No instruction of the table is refused: `exec` never answers one. -/
inductive Refusal where
  /-- An arm of `exec` whose instruction has no meaning yet. No arm raises it. Safe. -/
  | notModelled (mnemonic : String)
  /-- Raised by the host operation `HostOps.loadProgram` for a block count other than 1 or 2 or a buffer of the
  wrong length (70_reset_and_hazards.md R152, D16). No instruction raises it. Safe. -/
  | loadProgramArguments
  /-- Raised by `step`, and so by the host operations `HostOps.hostStep` and `HostOps.hostRun`, in a state in which
  `initialize()` has not been called (70_reset_and_hazards.md R151, D25, U16). No instruction raises it. Safe. -/
  | notInitialized
  deriving DecidableEq, Repr

/-- The outcome of one instruction of this machine. -/
abbrev StepOutcome := Host.Outcome State Fault Refusal

/-- The machine right after the host's `reset()`, which the host calls after `initialize()` (70_reset_and_hazards.md R159), with
nothing else done (10_state.md R34): the opcode table is built (log 12), and `pc` is the word at 0xFFFC/0xFFFD, which is
0x0000 in a memory that lists nothing (log 9). Every other register is unspecified by the spec
and zero here: DESIGN CHOICE, log 8; unsafe. -/
def State.reset : State where
  pc := 0x0000
  sp := 0x00
  acc := 0x00
  x := 0x00
  y := 0x00
  flagC := false
  flagZ := false
  flagI := false
  flagD := false
  flagB := false
  flagV := false
  flagN := false
  ir := 0x00
  tl := 0x00
  th := 0x00
  mem := []
  initialized := true
  faultRecord := []
  draws := 0

end Sys2Proof.Machine
end

