-- ==== Sys2Proof/Machine/Ops.lean ====
section
/-! DEFINITION. The named operations over bytes, memory and registers: byte order (00_scope.md R13), the two memory
primitives (R15), the 16-bit read (20_memory.md R39), the stack (44_stack.md R107, R108) and the one exceptional
outcome (60_exceptions.md R134). -/

namespace Sys2Proof.Machine

/-- `word16(hi, lo)` (00_scope.md R13). -/
def word16 (hi lo : Byte) : Word := hi ++ lo

/-- `lo8(w)`, bits 7 to 0 (00_scope.md R13). -/
def lo8 (w : Word) : Byte := w.extractLsb' 0 8

/-- `hi8(w)`, bits 15 to 8 (00_scope.md R13). -/
def hi8 (w : Word) : Byte := w.extractLsb' 8 8

/-- `zext_16(v)` (00_scope.md R13). -/
def zext16 (v : Byte) : Word := v.setWidth 16

/-- What an address that memory does not list reads as. DESIGN CHOICE, log 9; unsafe. -/
def Memory.unlisted : Byte := 0x00

/-- The byte at an address: the first entry for it, else the unlisted byte. -/
def Memory.read (m : Memory) (a : Nat) : Byte :=
  match m with
  | [] => Memory.unlisted
  | (k, w) :: rest => if k = a then w else Memory.read rest a

/-- Stores one byte, keeping the canonical form: the unlisted byte is stored by removing the entry. -/
def Memory.write (m : Memory) (a : Nat) (v : Byte) : Memory :=
  match m with
  | [] => if v = Memory.unlisted then [] else [(a, v)]
  | (k, w) :: rest =>
    if a < k then
      if v = Memory.unlisted then (k, w) :: rest else (a, v) :: (k, w) :: rest
    else if a = k then
      if v = Memory.unlisted then rest else (a, v) :: rest
    else (k, w) :: Memory.write rest a v

/-- The canonical form from address `lo` on: addresses strictly rising, below 65536, no byte the unlisted one. -/
def Memory.wfFrom (lo : Nat) (m : Memory) : Bool :=
  match m with
  | [] => true
  | (k, w) :: rest =>
    decide (lo ≤ k) && decide (k < 65536) && (w != Memory.unlisted) && Memory.wfFrom (k + 1) rest

/-- The canonical form of memory. -/
def Memory.wf (m : Memory) : Bool := Memory.wfFrom 0 m

/-- `MemRead(a, 1)` (00_scope.md R15): no side effect, no address out of range (20_memory.md R37, R42). -/
def memRead (s : State) (a : Word) : Byte := Memory.read s.mem a.toNat

/-- `MemWrite(a, 1, v)` (00_scope.md R15): every address is writable (20_memory.md R44). -/
def memWrite (a : Word) (v : Byte) (s : State) : State :=
  { s with mem := Memory.write s.mem a.toNat v }

/-- `Read16(a)` (20_memory.md R39): little-endian, the second address modulo 65536. -/
def read16 (s : State) (a : Word) : Word := word16 (memRead s (a + 1)) (memRead s a)

/-- The address of the stack byte `sp` names (10_state.md R22). -/
def stackAddr (sp : Byte) : Word := Config.stackBase + zext16 sp

/-- `Push(v)` (44_stack.md R107): write at `sp`, then decrement `sp` modulo 256. -/
def push (v : Byte) (s : State) : State :=
  { memWrite (stackAddr s.sp) v s with sp := s.sp - 1 }

/-- `Pull()`, the new state (44_stack.md R108): increment `sp` modulo 256. -/
def pull (s : State) : State := { s with sp := s.sp + 1 }

/-- `Pull()`, the byte (44_stack.md R108): read at the incremented `sp`. -/
def pulled (s : State) : Byte := memRead s (stackAddr (s.sp + 1))

/-- Fetch (30_encoding.md R62): latch the opcode at `pc` in `ir` and increment `pc` modulo 65536. -/
def fetchLatch (s : State) : State := { s with ir := memRead s s.pc, pc := s.pc + 1 }

/-- The unknown-opcode outcome after Fetch (60_exceptions.md R134, R136), the core's ONLY exceptional outcome: nothing
changes but the fault record, which gains the byte's address (one before `pc`) and the byte. It is non-fatal (R135), so
it is a next state. There is no trap entry and no return from one (R140, R142). Log 10: DESIGN CHOICE (D12), safe with an empty record as premise. -/
def unknownOpcode (op : Byte) (s : State) : StepOutcome :=
  .next { s with faultRecord := s.faultRecord ++ [(s.pc - 1, op)] }

end Sys2Proof.Machine
end

