-- ==== Sys2Proof/Machine/Absent.lean ====
section
/-! DEFINITION. The absent entries of the opcode table (30_encoding.md R58): each ends its step in the unknown-opcode outcome
(60_exceptions.md R134), whose bytes after the opcode are never read as operands. -/

namespace Sys2Proof.Machine

/-- BPL, absent (R58, R134). -/
def execBpl (s : State) : StepOutcome := unknownOpcode 0x10 s

/-- BMI, absent (R58, R134). -/
def execBmi (s : State) : StepOutcome := unknownOpcode 0x30 s

/-- BVC, absent (R58, R134). -/
def execBvc (s : State) : StepOutcome := unknownOpcode 0x50 s

/-- BVS, absent (R58, R134). -/
def execBvs (s : State) : StepOutcome := unknownOpcode 0x70 s

/-- BCC, absent (R58, R134). -/
def execBcc (s : State) : StepOutcome := unknownOpcode 0x90 s

/-- BCS, absent (R58, R134). -/
def execBcs (s : State) : StepOutcome := unknownOpcode 0xB0 s

/-- BNE, absent (R58, R134). -/
def execBne (s : State) : StepOutcome := unknownOpcode 0xD0 s

/-- BEQ, absent (R58, R134). -/
def execBeq (s : State) : StepOutcome := unknownOpcode 0xF0 s

/-- JSR addr, absent (R58, R134). -/
def execJsr (s : State) : StepOutcome := unknownOpcode 0x20 s

/-- RTS, absent (R58, R134). -/
def execRts (s : State) : StepOutcome := unknownOpcode 0x60 s

/-- RTI, absent (R58, R134). -/
def execRti (s : State) : StepOutcome := unknownOpcode 0x40 s

/-- ROL zp, absent (R58, R134). -/
def execRolZp (s : State) : StepOutcome := unknownOpcode 0x26 s

/-- ROL A, absent (R58, R134). -/
def execRolAcc (s : State) : StepOutcome := unknownOpcode 0x2A s

/-- ROL addr, absent (R58, R134). -/
def execRolAbs (s : State) : StepOutcome := unknownOpcode 0x2E s

/-- ROL zp,X, absent (R58, R134). -/
def execRolZpx (s : State) : StepOutcome := unknownOpcode 0x36 s

/-- ROL addr,X, absent (R58, R134). -/
def execRolAbsx (s : State) : StepOutcome := unknownOpcode 0x3E s

/-- ROR zp, absent (R58, R134). -/
def execRorZp (s : State) : StepOutcome := unknownOpcode 0x66 s

/-- ROR A, absent (R58, R134). -/
def execRorAcc (s : State) : StepOutcome := unknownOpcode 0x6A s

/-- ROR addr, absent (R58, R134). -/
def execRorAbs (s : State) : StepOutcome := unknownOpcode 0x6E s

/-- ROR zp,X, absent (R58, R134). -/
def execRorZpx (s : State) : StepOutcome := unknownOpcode 0x76 s

/-- ROR addr,X, absent (R58, R134). -/
def execRorAbsx (s : State) : StepOutcome := unknownOpcode 0x7E s

/-- SBC (zp,X), absent (R58, R134). -/
def execSbcIndx (s : State) : StepOutcome := unknownOpcode 0xE1 s

/-- SBC zp, absent (R58, R134). -/
def execSbcZp (s : State) : StepOutcome := unknownOpcode 0xE5 s

/-- SBC #imm, absent (R58, R134). -/
def execSbcImm (s : State) : StepOutcome := unknownOpcode 0xE9 s

/-- SBC addr, absent (R58, R134). -/
def execSbcAbs (s : State) : StepOutcome := unknownOpcode 0xED s

/-- SBC (zp),Y, absent (R58, R134). -/
def execSbcIndy (s : State) : StepOutcome := unknownOpcode 0xF1 s

/-- SBC zp,X, absent (R58, R134). -/
def execSbcZpx (s : State) : StepOutcome := unknownOpcode 0xF5 s

/-- SBC addr,Y, absent (R58, R134). -/
def execSbcAbsy (s : State) : StepOutcome := unknownOpcode 0xF9 s

/-- SBC addr,X, absent (R58, R134). -/
def execSbcAbsx (s : State) : StepOutcome := unknownOpcode 0xFD s

/-- ASL zp, absent (R58, R134). -/
def execAslZp (s : State) : StepOutcome := unknownOpcode 0x06 s

/-- ASL A, absent (R58, R134). -/
def execAslAcc (s : State) : StepOutcome := unknownOpcode 0x0A s

/-- ASL addr, absent (R58, R134). -/
def execAslAbs (s : State) : StepOutcome := unknownOpcode 0x0E s

/-- ASL zp,X, absent (R58, R134). -/
def execAslZpx (s : State) : StepOutcome := unknownOpcode 0x16 s

/-- ASL addr,X, absent (R58, R134). -/
def execAslAbsx (s : State) : StepOutcome := unknownOpcode 0x1E s

/-- BIT zp, absent (R58, R134). -/
def execBitZp (s : State) : StepOutcome := unknownOpcode 0x24 s

/-- BIT addr, absent (R58, R134). -/
def execBitAbs (s : State) : StepOutcome := unknownOpcode 0x2C s

/-- An undocumented byte, absent (R58, R61, R134). -/
def execUndocumented (op : Byte) (s : State) : StepOutcome := unknownOpcode op s

end Sys2Proof.Machine
end

