-- ==== Sys2Proof/Machine/Flags.lean ====
section
/-! DEFINITION. Every flag computation of the spec: the canonical Z and N (00_scope.md R17), the packed status byte
(10_state.md R24, R25), compare (42_compare_incdec.md R93), the shift (43_logic_shift.md R106) and ADC
(47_arithmetic.md R131, R132). A flag an operation does not name keeps its value (R17, R31). -/

namespace Sys2Proof.Machine

/-- `SetZN(v)` (00_scope.md R17). -/
def setZN (v : Byte) (s : State) : State :=
  { s with flagZ := decide (v = 0), flagN := v.getLsbD 7 }

/-- A flag at bit `i` of a byte. -/
def bitAt (b : Bool) (i : Nat) : Byte := (BitVec.ofBool b).setWidth 8 <<< i

/-- `pack()` (10_state.md R24): N, V, bit 5, B, D, I, Z, C from bit 7 down. The places of bits 6, 4, 3, 2 and 1 are the
spec's own, from general knowledge (G4): log 16, PRESUMED by the spec, unsafe.
Bit 5 is a free value: log 4, safe. -/
def pack (s : State) : Byte :=
  bitAt s.flagN 7 ||| bitAt s.flagV 6 ||| bitAt Config.statusBit5 5 ||| bitAt s.flagB 4 |||
    bitAt s.flagD 3 ||| bitAt s.flagI 2 ||| bitAt s.flagZ 1 ||| bitAt s.flagC 0

/-- `unpack(v)` (10_state.md R25): all seven flags, B among them; bit 5 is ignored. -/
def unpack (v : Byte) (s : State) : State :=
  { s with
    flagN := v.getLsbD 7, flagV := v.getLsbD 6, flagB := v.getLsbD 4, flagD := v.getLsbD 3,
    flagI := v.getLsbD 2, flagZ := v.getLsbD 1, flagC := v.getLsbD 0 }

/-- `Compare(r, v)` (42_compare_incdec.md R93): C unsigned, Z equality, N bit 7 of `r - v`. -/
def compareFlags (r v : Byte) (s : State) : State :=
  { s with flagC := decide (v.toNat ≤ r.toNat), flagZ := decide (r = v), flagN := (r - v).getLsbD 7 }

/-- The flags of LSR on `v` (43_logic_shift.md R106): C is the bit shifted out, Z and N are the result's. -/
def shiftFlags (v : Byte) (s : State) : State :=
  setZN (v >>> 1) { s with flagC := v.getLsbD 0 }

/-- The exact sum of ADC, 0 to 511 (47_arithmetic.md R131). -/
def adcSum (a v : Byte) (c : Bool) : Nat := a.toNat + v.toNat + c.toNat

/-- ADC with D = 0 (47_arithmetic.md R131). C is the spec's carry out (general knowledge, G5): log 17, PRESUMED by the spec, unsafe. V is a draw, a free
value (log 5: a free value (D5), safe); the draw counter advances. -/
def adcBinary (v : Byte) (s : State) : State :=
  let sum := adcSum s.acc v s.flagC
  let r := BitVec.ofNat 8 sum
  { setZN r s with
    acc := r, flagC := decide (255 < sum), flagV := Config.adcOverflow s.draws, draws := s.draws + 1 }

/-- ADC with D = 1 (47_arithmetic.md R132): the accumulator and C, Z, N, V are draws, free values (log 6: D6, safe); the draw counter
advances. -/
def adcDecimal (s : State) : State :=
  let d := Config.adcDecimal s.draws
  { s with
    acc := d.acc, flagC := d.carry, flagZ := d.zero, flagN := d.negative, flagV := d.overflow,
    draws := s.draws + 1 }

end Sys2Proof.Machine
end

