-- ==== Sys2Proof/Machine/Operands.lean ====
section
/-! DEFINITION. The addressing-mode resolvers (40_addressing.md R68-R86) and the operand value (R85). A resolver is
called with `pc` at the first operand byte, gets the operand bytes Decode read there, advances `pc` past them and writes
`tl` and `th`; it changes nothing else (R68, R86). Implied and accumulator forms have none (R72, R73). -/

namespace Sys2Proof.Machine

/-- What every resolver writes (40_addressing.md R68): `n` operand bytes consumed and the operand pair. -/
def setOperand (n : Word) (hi lo : Byte) (s : State) : State :=
  { s with pc := s.pc + n, tl := lo, th := hi }

/-- `EA = word16(th, tl)` (40_addressing.md R71). -/
def effAddr (s : State) : Word := word16 s.th s.tl

/-- Immediate (40_addressing.md R74). -/
def resolveImm (b : Byte) (s : State) : State := setOperand 1 0 b s

/-- Zero-page (40_addressing.md R75). -/
def resolveZp (b : Byte) (s : State) : State := setOperand 1 0 b s

/-- Zero-page,X (40_addressing.md R76): the sum wraps within page 0. -/
def resolveZpx (b : Byte) (s : State) : State := setOperand 1 0 (b + s.x) s

/-- Zero-page,Y (40_addressing.md R77): the sum wraps within page 0. -/
def resolveZpy (b : Byte) (s : State) : State := setOperand 1 0 (b + s.y) s

/-- Absolute (40_addressing.md R78): the low byte comes first. -/
def resolveAbs (lo hi : Byte) (s : State) : State := setOperand 2 hi lo s

/-- Absolute plus an index: a 16-bit sum that wraps at 0xFFFF (40_addressing.md R79, R80). -/
def resolveIndexed (lo hi index : Byte) (s : State) : State :=
  let a := word16 hi lo + zext16 index
  setOperand 2 (hi8 a) (lo8 a) s

/-- Absolute,X (40_addressing.md R79). -/
def resolveAbsx (lo hi : Byte) (s : State) : State := resolveIndexed lo hi s.x s

/-- Absolute,Y (40_addressing.md R80). -/
def resolveAbsy (lo hi : Byte) (s : State) : State := resolveIndexed lo hi s.y s

/-- The address of the second pointer byte of JMP indirect (40_addressing.md R81): the 16-bit successor, or the successor
in the pointer's page if `JMP_IND_PAGE_WRAP` (log 2: DESIGN CHOICE (D7), unsafe). -/
def indirectSecond (lo hi : Byte) : Word :=
  if Config.jmpIndPageWrap then word16 hi (lo + 1) else word16 hi lo + 1

/-- Indirect (40_addressing.md R81). -/
def resolveInd (lo hi : Byte) (s : State) : State :=
  setOperand 2 (memRead s (indirectSecond lo hi)) (memRead s (word16 hi lo)) s

/-- The address of the second byte of a zero-page pointer (40_addressing.md R82): it wraps in page 0 if `ZP_PTR_WRAP`
(log 3: DESIGN CHOICE (D8), unsafe). -/
def zpSecond (z : Byte) : Word :=
  if Config.zpPtrWrap then zext16 (z + 1) else zext16 z + 1

/-- `ZpRead16(z)` (40_addressing.md R82). -/
def zpRead16 (s : State) (z : Byte) : Word :=
  word16 (memRead s (zpSecond z)) (memRead s (zext16 z))

/-- Indexed-indirect (X) (40_addressing.md R83). -/
def resolveIndx (b : Byte) (s : State) : State :=
  let a := zpRead16 s (b + s.x)
  setOperand 1 (hi8 a) (lo8 a) s

/-- Indirect-indexed (Y) (40_addressing.md R84): the sum is 16-bit. -/
def resolveIndy (b : Byte) (s : State) : State :=
  let a := zpRead16 s b + zext16 s.y
  setOperand 1 (hi8 a) (lo8 a) s

/-- An executor on the immediate operand of a resolved state: the value is `tl` (40_addressing.md R85). -/
def onImm (f : Byte → State → State) (r : State) : StepOutcome := .next (f r.tl r)

/-- An executor on the memory operand of a resolved state: the value is the byte at EA (40_addressing.md R85). -/
def onMem (f : Byte → State → State) (r : State) : StepOutcome := .next (f (memRead r (effAddr r)) r)

end Sys2Proof.Machine
end

