-- ==== Sys2Proof/Machine/Arithmetic.lean ====
section
/-! DEFINITION. Add with carry (47_arithmetic.md R131, R132). -/

namespace Sys2Proof.Machine

/-- ADC on an operand value (47_arithmetic.md R131 if D = 0, R132 if D = 1). -/
def adcAcc (v : Byte) (s : State) : State := if s.flagD then adcDecimal s else adcBinary v s

/-- ADC #imm (R131, R74). -/
def execAdcImm (imm : Byte) (s : State) : StepOutcome :=
  onImm adcAcc (resolveImm imm s)

/-- ADC zp (R131, R75). -/
def execAdcZp (zp : Byte) (s : State) : StepOutcome :=
  onMem adcAcc (resolveZp zp s)

/-- ADC zp,X (R131, R76). -/
def execAdcZpx (zp : Byte) (s : State) : StepOutcome :=
  onMem adcAcc (resolveZpx zp s)

/-- ADC addr (R131, R78). -/
def execAdcAbs (lo hi : Byte) (s : State) : StepOutcome :=
  onMem adcAcc (resolveAbs lo hi s)

/-- ADC addr,X (R131, R79). -/
def execAdcAbsx (lo hi : Byte) (s : State) : StepOutcome :=
  onMem adcAcc (resolveAbsx lo hi s)

/-- ADC addr,Y (R131, R80). -/
def execAdcAbsy (lo hi : Byte) (s : State) : StepOutcome :=
  onMem adcAcc (resolveAbsy lo hi s)

/-- ADC (zp,X) (R131, R83). -/
def execAdcIndx (zp : Byte) (s : State) : StepOutcome :=
  onMem adcAcc (resolveIndx zp s)

/-- ADC (zp),Y (R131, R84). -/
def execAdcIndy (zp : Byte) (s : State) : StepOutcome :=
  onMem adcAcc (resolveIndy zp s)

end Sys2Proof.Machine
end

