-- ==== Sys2Proof/Machine/CompareIncDec.lean ====
section
/-! DEFINITION. Compare, increment and decrement (42_compare_incdec.md R93-R102). -/

namespace Sys2Proof.Machine

/-- The compare of the accumulator (42_compare_incdec.md R94). -/
def compareAcc (v : Byte) (s : State) : State := compareFlags s.acc v s

/-- The compare of X (42_compare_incdec.md R95). -/
def compareX (v : Byte) (s : State) : State := compareFlags s.x v s

/-- The compare of Y (42_compare_incdec.md R96). -/
def compareY (v : Byte) (s : State) : State := compareFlags s.y v s

/-- A memory byte at EA read, changed by `f` and written back; Z and N are the result's (42_compare_incdec.md R97, R98). The
read comes before the write (20_memory.md R47). -/
def stepMem (f : Byte → Byte) (r : State) : State :=
  let v := f (memRead r (effAddr r))
  setZN v (memWrite (effAddr r) v r)

/-- CMP #imm (R94, R74). -/
def execCmpImm (imm : Byte) (s : State) : StepOutcome :=
  onImm compareAcc (resolveImm imm s)

/-- CMP zp (R94, R75). -/
def execCmpZp (zp : Byte) (s : State) : StepOutcome :=
  onMem compareAcc (resolveZp zp s)

/-- CMP zp,X (R94, R76). -/
def execCmpZpx (zp : Byte) (s : State) : StepOutcome :=
  onMem compareAcc (resolveZpx zp s)

/-- CMP addr (R94, R78). -/
def execCmpAbs (lo hi : Byte) (s : State) : StepOutcome :=
  onMem compareAcc (resolveAbs lo hi s)

/-- CMP addr,X (R94, R79). -/
def execCmpAbsx (lo hi : Byte) (s : State) : StepOutcome :=
  onMem compareAcc (resolveAbsx lo hi s)

/-- CMP addr,Y (R94, R80). -/
def execCmpAbsy (lo hi : Byte) (s : State) : StepOutcome :=
  onMem compareAcc (resolveAbsy lo hi s)

/-- CMP (zp,X) (R94, R83). -/
def execCmpIndx (zp : Byte) (s : State) : StepOutcome :=
  onMem compareAcc (resolveIndx zp s)

/-- CMP (zp),Y (R94, R84). -/
def execCmpIndy (zp : Byte) (s : State) : StepOutcome :=
  onMem compareAcc (resolveIndy zp s)

/-- CPX #imm (R95, R74). -/
def execCpxImm (imm : Byte) (s : State) : StepOutcome :=
  onImm compareX (resolveImm imm s)

/-- CPX zp (R95, R75). -/
def execCpxZp (zp : Byte) (s : State) : StepOutcome :=
  onMem compareX (resolveZp zp s)

/-- CPX addr (R95, R78). -/
def execCpxAbs (lo hi : Byte) (s : State) : StepOutcome :=
  onMem compareX (resolveAbs lo hi s)

/-- CPY #imm (R96, R74). -/
def execCpyImm (imm : Byte) (s : State) : StepOutcome :=
  onImm compareY (resolveImm imm s)

/-- CPY zp (R96, R75). -/
def execCpyZp (zp : Byte) (s : State) : StepOutcome :=
  onMem compareY (resolveZp zp s)

/-- CPY addr (R96, R78). -/
def execCpyAbs (lo hi : Byte) (s : State) : StepOutcome :=
  onMem compareY (resolveAbs lo hi s)

/-- INC zp (R97, R75). -/
def execIncZp (zp : Byte) (s : State) : StepOutcome :=
  .next (stepMem (· + 1) (resolveZp zp s))

/-- INC zp,X (R97, R76). -/
def execIncZpx (zp : Byte) (s : State) : StepOutcome :=
  .next (stepMem (· + 1) (resolveZpx zp s))

/-- INC addr (R97, R78). -/
def execIncAbs (lo hi : Byte) (s : State) : StepOutcome :=
  .next (stepMem (· + 1) (resolveAbs lo hi s))

/-- INC addr,X (R97, R79). -/
def execIncAbsx (lo hi : Byte) (s : State) : StepOutcome :=
  .next (stepMem (· + 1) (resolveAbsx lo hi s))

/-- DEC zp (R98, R75). -/
def execDecZp (zp : Byte) (s : State) : StepOutcome :=
  .next (stepMem (· - 1) (resolveZp zp s))

/-- DEC zp,X (R98, R76). -/
def execDecZpx (zp : Byte) (s : State) : StepOutcome :=
  .next (stepMem (· - 1) (resolveZpx zp s))

/-- DEC addr (R98, R78). -/
def execDecAbs (lo hi : Byte) (s : State) : StepOutcome :=
  .next (stepMem (· - 1) (resolveAbs lo hi s))

/-- DEC addr,X (R98, R79). -/
def execDecAbsx (lo hi : Byte) (s : State) : StepOutcome :=
  .next (stepMem (· - 1) (resolveAbsx lo hi s))

/-- INX (R99, R72). -/
def execInx (s : State) : StepOutcome :=
  .next (setZN (s.x + 1) { s with x := s.x + 1 })

/-- INY (R100, R72). -/
def execIny (s : State) : StepOutcome :=
  .next (setZN (s.y + 1) { s with y := s.y + 1 })

/-- DEX (R101, R72). -/
def execDex (s : State) : StepOutcome :=
  .next (setZN (s.x - 1) { s with x := s.x - 1 })

/-- DEY (R102, R72). -/
def execDey (s : State) : StepOutcome :=
  .next (setZN (s.y - 1) { s with y := s.y - 1 })

end Sys2Proof.Machine
end

