-- ==== Sys2Proof/Machine/Control.lean ====
section
/-! DEFINITION. Control transfer and system instructions (46_control_system.md R126-R130). -/

namespace Sys2Proof.Machine

/-- The jump: `pc` takes EA (46_control_system.md R126). -/
def jump (r : State) : State := { r with pc := effAddr r }

/-- JMP addr (R126, R78). -/
def execJmpAbs (lo hi : Byte) (s : State) : StepOutcome :=
  .next (jump (resolveAbs lo hi s))

/-- JMP (addr) (R126, R81). -/
def execJmpInd (lo hi : Byte) (s : State) : StepOutcome :=
  .next (jump (resolveInd lo hi s))

/-- BRK (R127, R72): it sets B and nothing else; nothing is pushed and no vector is read (60_exceptions.md R141). Log 18: DESIGN CHOICE (D13), unsafe. -/
def execBrk (s : State) : StepOutcome :=
  .next { s with flagB := true }

/-- NOP (R128, R72). -/
def execNop (s : State) : StepOutcome :=
  .next s

end Sys2Proof.Machine
end

