-- ==== Sys2Proof/Machine/FlagsTransfer.lean ====
section
/-! DEFINITION. Flag and transfer instructions (45_flags_transfer.md R113-R125). -/

namespace Sys2Proof.Machine

/-- CLC (R113, R72). -/
def execClc (s : State) : StepOutcome :=
  .next { s with flagC := false }

/-- SEC (R114, R72). -/
def execSec (s : State) : StepOutcome :=
  .next { s with flagC := true }

/-- CLD (R115, R72). -/
def execCld (s : State) : StepOutcome :=
  .next { s with flagD := false }

/-- SED (R116, R72). -/
def execSed (s : State) : StepOutcome :=
  .next { s with flagD := true }

/-- CLI (R117, R72). -/
def execCli (s : State) : StepOutcome :=
  .next { s with flagI := false }

/-- SEI (R118, R72). -/
def execSei (s : State) : StepOutcome :=
  .next { s with flagI := true }

/-- CLV (R119, R72). -/
def execClv (s : State) : StepOutcome :=
  .next { s with flagV := false }

/-- TAX (R120, R72). -/
def execTax (s : State) : StepOutcome :=
  .next (setZN s.acc { s with x := s.acc })

/-- TXA (R121, R72). -/
def execTxa (s : State) : StepOutcome :=
  .next (setZN s.x { s with acc := s.x })

/-- TAY (R122, R72). -/
def execTay (s : State) : StepOutcome :=
  .next (setZN s.acc { s with y := s.acc })

/-- TYA (R123, R72). -/
def execTya (s : State) : StepOutcome :=
  .next (setZN s.y { s with acc := s.y })

/-- TSX (R124, R72). -/
def execTsx (s : State) : StepOutcome :=
  .next (setZN s.sp { s with x := s.sp })

/-- TXS (R125, R72). -/
def execTxs (s : State) : StepOutcome :=
  .next { s with sp := s.x }

end Sys2Proof.Machine
end

