-- ==== Sys2Proof/Machine/LoadStore.lean ====
section
/-! DEFINITION. Loads and stores (41_load_store.md R87-R92). -/

namespace Sys2Proof.Machine

/-- The load of the accumulator (41_load_store.md R87). -/
def loadAcc (v : Byte) (s : State) : State := setZN v { s with acc := v }

/-- The load of X (41_load_store.md R88). -/
def loadX (v : Byte) (s : State) : State := setZN v { s with x := v }

/-- The load of Y (41_load_store.md R89). -/
def loadY (v : Byte) (s : State) : State := setZN v { s with y := v }

/-- The store of the accumulator at EA (41_load_store.md R90). -/
def storeAcc (r : State) : State := memWrite (effAddr r) r.acc r

/-- The store of X at EA (41_load_store.md R91). -/
def storeX (r : State) : State := memWrite (effAddr r) r.x r

/-- The store of Y at EA (41_load_store.md R92). -/
def storeY (r : State) : State := memWrite (effAddr r) r.y r

/-- LDA #imm (R87, R74). -/
def execLdaImm (imm : Byte) (s : State) : StepOutcome :=
  onImm loadAcc (resolveImm imm s)

/-- LDA zp (R87, R75). -/
def execLdaZp (zp : Byte) (s : State) : StepOutcome :=
  onMem loadAcc (resolveZp zp s)

/-- LDA zp,X (R87, R76). -/
def execLdaZpx (zp : Byte) (s : State) : StepOutcome :=
  onMem loadAcc (resolveZpx zp s)

/-- LDA addr (R87, R78). -/
def execLdaAbs (lo hi : Byte) (s : State) : StepOutcome :=
  onMem loadAcc (resolveAbs lo hi s)

/-- LDA addr,X (R87, R79). -/
def execLdaAbsx (lo hi : Byte) (s : State) : StepOutcome :=
  onMem loadAcc (resolveAbsx lo hi s)

/-- LDA addr,Y (R87, R80). -/
def execLdaAbsy (lo hi : Byte) (s : State) : StepOutcome :=
  onMem loadAcc (resolveAbsy lo hi s)

/-- LDA (zp,X) (R87, R83). -/
def execLdaIndx (zp : Byte) (s : State) : StepOutcome :=
  onMem loadAcc (resolveIndx zp s)

/-- LDA (zp),Y (R87, R84). -/
def execLdaIndy (zp : Byte) (s : State) : StepOutcome :=
  onMem loadAcc (resolveIndy zp s)

/-- LDX #imm (R88, R74). -/
def execLdxImm (imm : Byte) (s : State) : StepOutcome :=
  onImm loadX (resolveImm imm s)

/-- LDX zp (R88, R75). -/
def execLdxZp (zp : Byte) (s : State) : StepOutcome :=
  onMem loadX (resolveZp zp s)

/-- LDX zp,Y (R88, R77). -/
def execLdxZpy (zp : Byte) (s : State) : StepOutcome :=
  onMem loadX (resolveZpy zp s)

/-- LDX addr (R88, R78). -/
def execLdxAbs (lo hi : Byte) (s : State) : StepOutcome :=
  onMem loadX (resolveAbs lo hi s)

/-- LDX addr,Y (R88, R80). -/
def execLdxAbsy (lo hi : Byte) (s : State) : StepOutcome :=
  onMem loadX (resolveAbsy lo hi s)

/-- LDY #imm (R89, R74). -/
def execLdyImm (imm : Byte) (s : State) : StepOutcome :=
  onImm loadY (resolveImm imm s)

/-- LDY zp (R89, R75). -/
def execLdyZp (zp : Byte) (s : State) : StepOutcome :=
  onMem loadY (resolveZp zp s)

/-- LDY zp,X (R89, R76). -/
def execLdyZpx (zp : Byte) (s : State) : StepOutcome :=
  onMem loadY (resolveZpx zp s)

/-- LDY addr (R89, R78). -/
def execLdyAbs (lo hi : Byte) (s : State) : StepOutcome :=
  onMem loadY (resolveAbs lo hi s)

/-- LDY addr,X (R89, R79). -/
def execLdyAbsx (lo hi : Byte) (s : State) : StepOutcome :=
  onMem loadY (resolveAbsx lo hi s)

/-- STA zp (R90, R75). -/
def execStaZp (zp : Byte) (s : State) : StepOutcome :=
  .next (storeAcc (resolveZp zp s))

/-- STA zp,X (R90, R76). -/
def execStaZpx (zp : Byte) (s : State) : StepOutcome :=
  .next (storeAcc (resolveZpx zp s))

/-- STA addr (R90, R78). -/
def execStaAbs (lo hi : Byte) (s : State) : StepOutcome :=
  .next (storeAcc (resolveAbs lo hi s))

/-- STA addr,X (R90, R79). -/
def execStaAbsx (lo hi : Byte) (s : State) : StepOutcome :=
  .next (storeAcc (resolveAbsx lo hi s))

/-- STA addr,Y (R90, R80). -/
def execStaAbsy (lo hi : Byte) (s : State) : StepOutcome :=
  .next (storeAcc (resolveAbsy lo hi s))

/-- STA (zp,X) (R90, R83). -/
def execStaIndx (zp : Byte) (s : State) : StepOutcome :=
  .next (storeAcc (resolveIndx zp s))

/-- STA (zp),Y (R90, R84). -/
def execStaIndy (zp : Byte) (s : State) : StepOutcome :=
  .next (storeAcc (resolveIndy zp s))

/-- STX zp (R91, R75). -/
def execStxZp (zp : Byte) (s : State) : StepOutcome :=
  .next (storeX (resolveZp zp s))

/-- STX zp,Y (R91, R77). -/
def execStxZpy (zp : Byte) (s : State) : StepOutcome :=
  .next (storeX (resolveZpy zp s))

/-- STX addr (R91, R78). -/
def execStxAbs (lo hi : Byte) (s : State) : StepOutcome :=
  .next (storeX (resolveAbs lo hi s))

/-- STY zp (R92, R75). -/
def execStyZp (zp : Byte) (s : State) : StepOutcome :=
  .next (storeY (resolveZp zp s))

/-- STY zp,X (R92, R76). -/
def execStyZpx (zp : Byte) (s : State) : StepOutcome :=
  .next (storeY (resolveZpx zp s))

/-- STY addr (R92, R78). -/
def execStyAbs (lo hi : Byte) (s : State) : StepOutcome :=
  .next (storeY (resolveAbs lo hi s))

end Sys2Proof.Machine
end

