-- ==== Sys2Proof/Machine/LogicShift.lean ====
section
/-! DEFINITION. Logical operations and shift (43_logic_shift.md R103-R106). -/

namespace Sys2Proof.Machine

/-- A result of the logical group (43_logic_shift.md R103-R105): it goes to the accumulator, and Z and N are set from it. -/
def setAcc (v : Byte) (s : State) : State := setZN v { s with acc := v }

/-- AND (43_logic_shift.md R103). -/
def andAcc (v : Byte) (s : State) : State := setAcc (s.acc &&& v) s

/-- ORA (43_logic_shift.md R104). -/
def oraAcc (v : Byte) (s : State) : State := setAcc (s.acc ||| v) s

/-- EOR (43_logic_shift.md R105). -/
def eorAcc (v : Byte) (s : State) : State := setAcc (s.acc ^^^ v) s

/-- LSR of the byte at EA (43_logic_shift.md R106): the read comes before the write. -/
def shiftMem (r : State) : State :=
  let v := memRead r (effAddr r)
  shiftFlags v (memWrite (effAddr r) (v >>> 1) r)

/-- AND #imm (R103, R74). -/
def execAndImm (imm : Byte) (s : State) : StepOutcome :=
  onImm andAcc (resolveImm imm s)

/-- AND zp (R103, R75). -/
def execAndZp (zp : Byte) (s : State) : StepOutcome :=
  onMem andAcc (resolveZp zp s)

/-- AND zp,X (R103, R76). -/
def execAndZpx (zp : Byte) (s : State) : StepOutcome :=
  onMem andAcc (resolveZpx zp s)

/-- AND addr (R103, R78). -/
def execAndAbs (lo hi : Byte) (s : State) : StepOutcome :=
  onMem andAcc (resolveAbs lo hi s)

/-- AND addr,X (R103, R79). -/
def execAndAbsx (lo hi : Byte) (s : State) : StepOutcome :=
  onMem andAcc (resolveAbsx lo hi s)

/-- AND addr,Y (R103, R80). -/
def execAndAbsy (lo hi : Byte) (s : State) : StepOutcome :=
  onMem andAcc (resolveAbsy lo hi s)

/-- AND (zp,X) (R103, R83). -/
def execAndIndx (zp : Byte) (s : State) : StepOutcome :=
  onMem andAcc (resolveIndx zp s)

/-- AND (zp),Y (R103, R84). -/
def execAndIndy (zp : Byte) (s : State) : StepOutcome :=
  onMem andAcc (resolveIndy zp s)

/-- ORA #imm (R104, R74). -/
def execOraImm (imm : Byte) (s : State) : StepOutcome :=
  onImm oraAcc (resolveImm imm s)

/-- ORA zp (R104, R75). -/
def execOraZp (zp : Byte) (s : State) : StepOutcome :=
  onMem oraAcc (resolveZp zp s)

/-- ORA zp,X (R104, R76). -/
def execOraZpx (zp : Byte) (s : State) : StepOutcome :=
  onMem oraAcc (resolveZpx zp s)

/-- ORA addr (R104, R78). -/
def execOraAbs (lo hi : Byte) (s : State) : StepOutcome :=
  onMem oraAcc (resolveAbs lo hi s)

/-- ORA addr,X (R104, R79). -/
def execOraAbsx (lo hi : Byte) (s : State) : StepOutcome :=
  onMem oraAcc (resolveAbsx lo hi s)

/-- ORA addr,Y (R104, R80). -/
def execOraAbsy (lo hi : Byte) (s : State) : StepOutcome :=
  onMem oraAcc (resolveAbsy lo hi s)

/-- ORA (zp,X) (R104, R83). -/
def execOraIndx (zp : Byte) (s : State) : StepOutcome :=
  onMem oraAcc (resolveIndx zp s)

/-- ORA (zp),Y (R104, R84). -/
def execOraIndy (zp : Byte) (s : State) : StepOutcome :=
  onMem oraAcc (resolveIndy zp s)

/-- EOR #imm (R105, R74). -/
def execEorImm (imm : Byte) (s : State) : StepOutcome :=
  onImm eorAcc (resolveImm imm s)

/-- EOR zp (R105, R75). -/
def execEorZp (zp : Byte) (s : State) : StepOutcome :=
  onMem eorAcc (resolveZp zp s)

/-- EOR zp,X (R105, R76). -/
def execEorZpx (zp : Byte) (s : State) : StepOutcome :=
  onMem eorAcc (resolveZpx zp s)

/-- EOR addr (R105, R78). -/
def execEorAbs (lo hi : Byte) (s : State) : StepOutcome :=
  onMem eorAcc (resolveAbs lo hi s)

/-- EOR addr,X (R105, R79). -/
def execEorAbsx (lo hi : Byte) (s : State) : StepOutcome :=
  onMem eorAcc (resolveAbsx lo hi s)

/-- EOR addr,Y (R105, R80). -/
def execEorAbsy (lo hi : Byte) (s : State) : StepOutcome :=
  onMem eorAcc (resolveAbsy lo hi s)

/-- EOR (zp,X) (R105, R83). -/
def execEorIndx (zp : Byte) (s : State) : StepOutcome :=
  onMem eorAcc (resolveIndx zp s)

/-- EOR (zp),Y (R105, R84). -/
def execEorIndy (zp : Byte) (s : State) : StepOutcome :=
  onMem eorAcc (resolveIndy zp s)

/-- LSR A (R106, R73): it leaves `tl` and `th` as they were. Log 21: DESIGN CHOICE of the spec (D14), safe while claims do not
observe the pair. -/
def execLsrAcc (s : State) : StepOutcome :=
  .next (shiftFlags s.acc { s with acc := s.acc >>> 1 })

/-- LSR zp (R106, R75). -/
def execLsrZp (zp : Byte) (s : State) : StepOutcome :=
  .next (shiftMem (resolveZp zp s))

/-- LSR zp,X (R106, R76). -/
def execLsrZpx (zp : Byte) (s : State) : StepOutcome :=
  .next (shiftMem (resolveZpx zp s))

/-- LSR addr (R106, R78). -/
def execLsrAbs (lo hi : Byte) (s : State) : StepOutcome :=
  .next (shiftMem (resolveAbs lo hi s))

/-- LSR addr,X (R106, R79). -/
def execLsrAbsx (lo hi : Byte) (s : State) : StepOutcome :=
  .next (shiftMem (resolveAbsx lo hi s))

end Sys2Proof.Machine
end

