-- ==== Sys2Proof/Machine/Stack.lean ====
section
/-! DEFINITION. Stack operations (44_stack.md R107-R112). -/

namespace Sys2Proof.Machine

/-- PHA (R109, R72). -/
def execPha (s : State) : StepOutcome :=
  .next (push s.acc s)

/-- PHP (R110, R72). -/
def execPhp (s : State) : StepOutcome :=
  .next (push (pack s) s)

/-- PLA (R111, R72). -/
def execPla (s : State) : StepOutcome :=
  .next (setZN (pulled s) { pull s with acc := pulled s })

/-- PLP (R112, R72). -/
def execPlp (s : State) : StepOutcome :=
  .next (unpack (pulled s) (pull s))

end Sys2Proof.Machine
end

