-- ==== Sys2Proof/Syntax.lean ====
section
/-! DEFINITION. The instructions: one constructor per present (mnemonic, mode) pair of the opcode table
(30_encoding.md R57, R64), one per documented 6502 opcode the core lacks (R58), and one, with its byte, for the 105
undocumented bytes. Operand bytes are raw (R53), in the order they stand after the opcode; an absent entry has none. -/

namespace Sys2Proof

/-- An instruction, that is, an entry of the opcode table with its operand bytes (30_encoding.md R51, R54). -/
inductive Instr where
  -- LDA (41_load_store.md R87)
  | ldaImm (imm : Byte)
  | ldaZp (zp : Byte)
  | ldaZpx (zp : Byte)
  | ldaAbs (lo hi : Byte)
  | ldaAbsx (lo hi : Byte)
  | ldaAbsy (lo hi : Byte)
  | ldaIndx (zp : Byte)
  | ldaIndy (zp : Byte)
  -- LDX (41_load_store.md R88)
  | ldxImm (imm : Byte)
  | ldxZp (zp : Byte)
  | ldxZpy (zp : Byte)
  | ldxAbs (lo hi : Byte)
  | ldxAbsy (lo hi : Byte)
  -- LDY (41_load_store.md R89)
  | ldyImm (imm : Byte)
  | ldyZp (zp : Byte)
  | ldyZpx (zp : Byte)
  | ldyAbs (lo hi : Byte)
  | ldyAbsx (lo hi : Byte)
  -- STA (41_load_store.md R90)
  | staZp (zp : Byte)
  | staZpx (zp : Byte)
  | staAbs (lo hi : Byte)
  | staAbsx (lo hi : Byte)
  | staAbsy (lo hi : Byte)
  | staIndx (zp : Byte)
  | staIndy (zp : Byte)
  -- STX (41_load_store.md R91)
  | stxZp (zp : Byte)
  | stxZpy (zp : Byte)
  | stxAbs (lo hi : Byte)
  -- STY (41_load_store.md R92)
  | styZp (zp : Byte)
  | styZpx (zp : Byte)
  | styAbs (lo hi : Byte)
  -- CMP (42_compare_incdec.md R94)
  | cmpImm (imm : Byte)
  | cmpZp (zp : Byte)
  | cmpZpx (zp : Byte)
  | cmpAbs (lo hi : Byte)
  | cmpAbsx (lo hi : Byte)
  | cmpAbsy (lo hi : Byte)
  | cmpIndx (zp : Byte)
  | cmpIndy (zp : Byte)
  -- CPX (42_compare_incdec.md R95)
  | cpxImm (imm : Byte)
  | cpxZp (zp : Byte)
  | cpxAbs (lo hi : Byte)
  -- CPY (42_compare_incdec.md R96)
  | cpyImm (imm : Byte)
  | cpyZp (zp : Byte)
  | cpyAbs (lo hi : Byte)
  -- INC (42_compare_incdec.md R97)
  | incZp (zp : Byte)
  | incZpx (zp : Byte)
  | incAbs (lo hi : Byte)
  | incAbsx (lo hi : Byte)
  -- DEC (42_compare_incdec.md R98)
  | decZp (zp : Byte)
  | decZpx (zp : Byte)
  | decAbs (lo hi : Byte)
  | decAbsx (lo hi : Byte)
  -- INX (42_compare_incdec.md R99)
  | inx
  -- INY (42_compare_incdec.md R100)
  | iny
  -- DEX (42_compare_incdec.md R101)
  | dex
  -- DEY (42_compare_incdec.md R102)
  | dey
  -- AND (43_logic_shift.md R103)
  | andImm (imm : Byte)
  | andZp (zp : Byte)
  | andZpx (zp : Byte)
  | andAbs (lo hi : Byte)
  | andAbsx (lo hi : Byte)
  | andAbsy (lo hi : Byte)
  | andIndx (zp : Byte)
  | andIndy (zp : Byte)
  -- ORA (43_logic_shift.md R104)
  | oraImm (imm : Byte)
  | oraZp (zp : Byte)
  | oraZpx (zp : Byte)
  | oraAbs (lo hi : Byte)
  | oraAbsx (lo hi : Byte)
  | oraAbsy (lo hi : Byte)
  | oraIndx (zp : Byte)
  | oraIndy (zp : Byte)
  -- EOR (43_logic_shift.md R105)
  | eorImm (imm : Byte)
  | eorZp (zp : Byte)
  | eorZpx (zp : Byte)
  | eorAbs (lo hi : Byte)
  | eorAbsx (lo hi : Byte)
  | eorAbsy (lo hi : Byte)
  | eorIndx (zp : Byte)
  | eorIndy (zp : Byte)
  -- LSR (43_logic_shift.md R106)
  | lsrAcc
  | lsrZp (zp : Byte)
  | lsrZpx (zp : Byte)
  | lsrAbs (lo hi : Byte)
  | lsrAbsx (lo hi : Byte)
  -- PHA (44_stack.md R109)
  | pha
  -- PHP (44_stack.md R110)
  | php
  -- PLA (44_stack.md R111)
  | pla
  -- PLP (44_stack.md R112)
  | plp
  -- CLC (45_flags_transfer.md R113)
  | clc
  -- SEC (45_flags_transfer.md R114)
  | sec
  -- CLD (45_flags_transfer.md R115)
  | cld
  -- SED (45_flags_transfer.md R116)
  | sed
  -- CLI (45_flags_transfer.md R117)
  | cli
  -- SEI (45_flags_transfer.md R118)
  | sei
  -- CLV (45_flags_transfer.md R119)
  | clv
  -- TAX (45_flags_transfer.md R120)
  | tax
  -- TXA (45_flags_transfer.md R121)
  | txa
  -- TAY (45_flags_transfer.md R122)
  | tay
  -- TYA (45_flags_transfer.md R123)
  | tya
  -- TSX (45_flags_transfer.md R124)
  | tsx
  -- TXS (45_flags_transfer.md R125)
  | txs
  -- JMP (46_control_system.md R126)
  | jmpAbs (lo hi : Byte)
  | jmpInd (lo hi : Byte)
  -- BRK (46_control_system.md R127)
  | brk
  -- NOP (46_control_system.md R128)
  | nop
  -- ADC (47_arithmetic.md R131)
  | adcImm (imm : Byte)
  | adcZp (zp : Byte)
  | adcZpx (zp : Byte)
  | adcAbs (lo hi : Byte)
  | adcAbsx (lo hi : Byte)
  | adcAbsy (lo hi : Byte)
  | adcIndx (zp : Byte)
  | adcIndy (zp : Byte)
  -- documented 6502 opcodes absent from this core (30_encoding.md R58)
  | bpl
  | bmi
  | bvc
  | bvs
  | bcc
  | bcs
  | bne
  | beq
  | jsr
  | rts
  | rti
  | rolZp
  | rolAcc
  | rolAbs
  | rolZpx
  | rolAbsx
  | rorZp
  | rorAcc
  | rorAbs
  | rorZpx
  | rorAbsx
  | sbcIndx
  | sbcZp
  | sbcImm
  | sbcAbs
  | sbcIndy
  | sbcZpx
  | sbcAbsy
  | sbcAbsx
  | aslZp
  | aslAcc
  | aslAbs
  | aslZpx
  | aslAbsx
  | bitZp
  | bitAbs
  /-- One of the 105 undocumented bytes, absent from this core (30_encoding.md R58, R61). -/
  | undocumented (op : Byte)
  deriving DecidableEq, Repr

end Sys2Proof
end

