-- ==== Sys2Proof/Machine/Dispatch.lean ====
section
/-! DEFINITION. The dispatch: one arm per constructor of Instr, each one call of its meaning (30_encoding.md R64). The state
is the one after Fetch (R62): `ir` latched and `pc` one past the opcode. -/

namespace Sys2Proof.Machine

def exec (i : Instr) (s : State) : Host.Outcome State Fault Refusal :=
  match i with
  | .ldaImm imm => Sys2Proof.Machine.execLdaImm imm s
  | .ldaZp zp => Sys2Proof.Machine.execLdaZp zp s
  | .ldaZpx zp => Sys2Proof.Machine.execLdaZpx zp s
  | .ldaAbs lo hi => Sys2Proof.Machine.execLdaAbs lo hi s
  | .ldaAbsx lo hi => Sys2Proof.Machine.execLdaAbsx lo hi s
  | .ldaAbsy lo hi => Sys2Proof.Machine.execLdaAbsy lo hi s
  | .ldaIndx zp => Sys2Proof.Machine.execLdaIndx zp s
  | .ldaIndy zp => Sys2Proof.Machine.execLdaIndy zp s
  | .ldxImm imm => Sys2Proof.Machine.execLdxImm imm s
  | .ldxZp zp => Sys2Proof.Machine.execLdxZp zp s
  | .ldxZpy zp => Sys2Proof.Machine.execLdxZpy zp s
  | .ldxAbs lo hi => Sys2Proof.Machine.execLdxAbs lo hi s
  | .ldxAbsy lo hi => Sys2Proof.Machine.execLdxAbsy lo hi s
  | .ldyImm imm => Sys2Proof.Machine.execLdyImm imm s
  | .ldyZp zp => Sys2Proof.Machine.execLdyZp zp s
  | .ldyZpx zp => Sys2Proof.Machine.execLdyZpx zp s
  | .ldyAbs lo hi => Sys2Proof.Machine.execLdyAbs lo hi s
  | .ldyAbsx lo hi => Sys2Proof.Machine.execLdyAbsx lo hi s
  | .staZp zp => Sys2Proof.Machine.execStaZp zp s
  | .staZpx zp => Sys2Proof.Machine.execStaZpx zp s
  | .staAbs lo hi => Sys2Proof.Machine.execStaAbs lo hi s
  | .staAbsx lo hi => Sys2Proof.Machine.execStaAbsx lo hi s
  | .staAbsy lo hi => Sys2Proof.Machine.execStaAbsy lo hi s
  | .staIndx zp => Sys2Proof.Machine.execStaIndx zp s
  | .staIndy zp => Sys2Proof.Machine.execStaIndy zp s
  | .stxZp zp => Sys2Proof.Machine.execStxZp zp s
  | .stxZpy zp => Sys2Proof.Machine.execStxZpy zp s
  | .stxAbs lo hi => Sys2Proof.Machine.execStxAbs lo hi s
  | .styZp zp => Sys2Proof.Machine.execStyZp zp s
  | .styZpx zp => Sys2Proof.Machine.execStyZpx zp s
  | .styAbs lo hi => Sys2Proof.Machine.execStyAbs lo hi s
  | .cmpImm imm => Sys2Proof.Machine.execCmpImm imm s
  | .cmpZp zp => Sys2Proof.Machine.execCmpZp zp s
  | .cmpZpx zp => Sys2Proof.Machine.execCmpZpx zp s
  | .cmpAbs lo hi => Sys2Proof.Machine.execCmpAbs lo hi s
  | .cmpAbsx lo hi => Sys2Proof.Machine.execCmpAbsx lo hi s
  | .cmpAbsy lo hi => Sys2Proof.Machine.execCmpAbsy lo hi s
  | .cmpIndx zp => Sys2Proof.Machine.execCmpIndx zp s
  | .cmpIndy zp => Sys2Proof.Machine.execCmpIndy zp s
  | .cpxImm imm => Sys2Proof.Machine.execCpxImm imm s
  | .cpxZp zp => Sys2Proof.Machine.execCpxZp zp s
  | .cpxAbs lo hi => Sys2Proof.Machine.execCpxAbs lo hi s
  | .cpyImm imm => Sys2Proof.Machine.execCpyImm imm s
  | .cpyZp zp => Sys2Proof.Machine.execCpyZp zp s
  | .cpyAbs lo hi => Sys2Proof.Machine.execCpyAbs lo hi s
  | .incZp zp => Sys2Proof.Machine.execIncZp zp s
  | .incZpx zp => Sys2Proof.Machine.execIncZpx zp s
  | .incAbs lo hi => Sys2Proof.Machine.execIncAbs lo hi s
  | .incAbsx lo hi => Sys2Proof.Machine.execIncAbsx lo hi s
  | .decZp zp => Sys2Proof.Machine.execDecZp zp s
  | .decZpx zp => Sys2Proof.Machine.execDecZpx zp s
  | .decAbs lo hi => Sys2Proof.Machine.execDecAbs lo hi s
  | .decAbsx lo hi => Sys2Proof.Machine.execDecAbsx lo hi s
  | .inx => Sys2Proof.Machine.execInx s
  | .iny => Sys2Proof.Machine.execIny s
  | .dex => Sys2Proof.Machine.execDex s
  | .dey => Sys2Proof.Machine.execDey s
  | .andImm imm => Sys2Proof.Machine.execAndImm imm s
  | .andZp zp => Sys2Proof.Machine.execAndZp zp s
  | .andZpx zp => Sys2Proof.Machine.execAndZpx zp s
  | .andAbs lo hi => Sys2Proof.Machine.execAndAbs lo hi s
  | .andAbsx lo hi => Sys2Proof.Machine.execAndAbsx lo hi s
  | .andAbsy lo hi => Sys2Proof.Machine.execAndAbsy lo hi s
  | .andIndx zp => Sys2Proof.Machine.execAndIndx zp s
  | .andIndy zp => Sys2Proof.Machine.execAndIndy zp s
  | .oraImm imm => Sys2Proof.Machine.execOraImm imm s
  | .oraZp zp => Sys2Proof.Machine.execOraZp zp s
  | .oraZpx zp => Sys2Proof.Machine.execOraZpx zp s
  | .oraAbs lo hi => Sys2Proof.Machine.execOraAbs lo hi s
  | .oraAbsx lo hi => Sys2Proof.Machine.execOraAbsx lo hi s
  | .oraAbsy lo hi => Sys2Proof.Machine.execOraAbsy lo hi s
  | .oraIndx zp => Sys2Proof.Machine.execOraIndx zp s
  | .oraIndy zp => Sys2Proof.Machine.execOraIndy zp s
  | .eorImm imm => Sys2Proof.Machine.execEorImm imm s
  | .eorZp zp => Sys2Proof.Machine.execEorZp zp s
  | .eorZpx zp => Sys2Proof.Machine.execEorZpx zp s
  | .eorAbs lo hi => Sys2Proof.Machine.execEorAbs lo hi s
  | .eorAbsx lo hi => Sys2Proof.Machine.execEorAbsx lo hi s
  | .eorAbsy lo hi => Sys2Proof.Machine.execEorAbsy lo hi s
  | .eorIndx zp => Sys2Proof.Machine.execEorIndx zp s
  | .eorIndy zp => Sys2Proof.Machine.execEorIndy zp s
  | .lsrAcc => Sys2Proof.Machine.execLsrAcc s
  | .lsrZp zp => Sys2Proof.Machine.execLsrZp zp s
  | .lsrZpx zp => Sys2Proof.Machine.execLsrZpx zp s
  | .lsrAbs lo hi => Sys2Proof.Machine.execLsrAbs lo hi s
  | .lsrAbsx lo hi => Sys2Proof.Machine.execLsrAbsx lo hi s
  | .pha => Sys2Proof.Machine.execPha s
  | .php => Sys2Proof.Machine.execPhp s
  | .pla => Sys2Proof.Machine.execPla s
  | .plp => Sys2Proof.Machine.execPlp s
  | .clc => Sys2Proof.Machine.execClc s
  | .sec => Sys2Proof.Machine.execSec s
  | .cld => Sys2Proof.Machine.execCld s
  | .sed => Sys2Proof.Machine.execSed s
  | .cli => Sys2Proof.Machine.execCli s
  | .sei => Sys2Proof.Machine.execSei s
  | .clv => Sys2Proof.Machine.execClv s
  | .tax => Sys2Proof.Machine.execTax s
  | .txa => Sys2Proof.Machine.execTxa s
  | .tay => Sys2Proof.Machine.execTay s
  | .tya => Sys2Proof.Machine.execTya s
  | .tsx => Sys2Proof.Machine.execTsx s
  | .txs => Sys2Proof.Machine.execTxs s
  | .jmpAbs lo hi => Sys2Proof.Machine.execJmpAbs lo hi s
  | .jmpInd lo hi => Sys2Proof.Machine.execJmpInd lo hi s
  | .brk => Sys2Proof.Machine.execBrk s
  | .nop => Sys2Proof.Machine.execNop s
  | .adcImm imm => Sys2Proof.Machine.execAdcImm imm s
  | .adcZp zp => Sys2Proof.Machine.execAdcZp zp s
  | .adcZpx zp => Sys2Proof.Machine.execAdcZpx zp s
  | .adcAbs lo hi => Sys2Proof.Machine.execAdcAbs lo hi s
  | .adcAbsx lo hi => Sys2Proof.Machine.execAdcAbsx lo hi s
  | .adcAbsy lo hi => Sys2Proof.Machine.execAdcAbsy lo hi s
  | .adcIndx zp => Sys2Proof.Machine.execAdcIndx zp s
  | .adcIndy zp => Sys2Proof.Machine.execAdcIndy zp s
  | .bpl => Sys2Proof.Machine.execBpl s
  | .bmi => Sys2Proof.Machine.execBmi s
  | .bvc => Sys2Proof.Machine.execBvc s
  | .bvs => Sys2Proof.Machine.execBvs s
  | .bcc => Sys2Proof.Machine.execBcc s
  | .bcs => Sys2Proof.Machine.execBcs s
  | .bne => Sys2Proof.Machine.execBne s
  | .beq => Sys2Proof.Machine.execBeq s
  | .jsr => Sys2Proof.Machine.execJsr s
  | .rts => Sys2Proof.Machine.execRts s
  | .rti => Sys2Proof.Machine.execRti s
  | .rolZp => Sys2Proof.Machine.execRolZp s
  | .rolAcc => Sys2Proof.Machine.execRolAcc s
  | .rolAbs => Sys2Proof.Machine.execRolAbs s
  | .rolZpx => Sys2Proof.Machine.execRolZpx s
  | .rolAbsx => Sys2Proof.Machine.execRolAbsx s
  | .rorZp => Sys2Proof.Machine.execRorZp s
  | .rorAcc => Sys2Proof.Machine.execRorAcc s
  | .rorAbs => Sys2Proof.Machine.execRorAbs s
  | .rorZpx => Sys2Proof.Machine.execRorZpx s
  | .rorAbsx => Sys2Proof.Machine.execRorAbsx s
  | .sbcIndx => Sys2Proof.Machine.execSbcIndx s
  | .sbcZp => Sys2Proof.Machine.execSbcZp s
  | .sbcImm => Sys2Proof.Machine.execSbcImm s
  | .sbcAbs => Sys2Proof.Machine.execSbcAbs s
  | .sbcIndy => Sys2Proof.Machine.execSbcIndy s
  | .sbcZpx => Sys2Proof.Machine.execSbcZpx s
  | .sbcAbsy => Sys2Proof.Machine.execSbcAbsy s
  | .sbcAbsx => Sys2Proof.Machine.execSbcAbsx s
  | .aslZp => Sys2Proof.Machine.execAslZp s
  | .aslAcc => Sys2Proof.Machine.execAslAcc s
  | .aslAbs => Sys2Proof.Machine.execAslAbs s
  | .aslZpx => Sys2Proof.Machine.execAslZpx s
  | .aslAbsx => Sys2Proof.Machine.execAslAbsx s
  | .bitZp => Sys2Proof.Machine.execBitZp s
  | .bitAbs => Sys2Proof.Machine.execBitAbs s
  | .undocumented op => Sys2Proof.Machine.execUndocumented op s

end Sys2Proof.Machine
end

