-- ==== Sys2Proof/Decode.lean ====
section
/-! DEFINITION. The opcode table (30_encoding.md R52-R61), the decoder that indexes it, and the encoder. The byte values
other than A9, 18, 69 and C9 are the spec's own, from general knowledge (D2, G1): log 15: PRESUMED by the spec, unsafe. -/

namespace Sys2Proof

/-- An entry of the opcode table (30_encoding.md R54): the mnemonic text, the byte length (0 for an absent entry, R55), the
base cycle count, which is informational (R60, log 20: DESIGN CHOICE (D18), safe), and, in place of the resolver and executor references (R64), the
instruction made from the opcode and the next two bytes. -/
structure TableEntry where
  mnemonic : String
  length : Nat
  cycles : Nat
  build : Byte → Byte → Byte → Instr

/-- A present entry of length 1 (implied or accumulator form, 30_encoding.md R51). -/
def entry1 (mnemonic : String) (cycles : Nat) (i : Instr) : TableEntry :=
  ⟨mnemonic, 1, cycles, fun _ _ _ => i⟩

/-- A present entry of length 2: one operand byte (30_encoding.md R51). -/
def entry2 (mnemonic : String) (cycles : Nat) (f : Byte → Instr) : TableEntry :=
  ⟨mnemonic, 2, cycles, fun _ b _ => f b⟩

/-- A present entry of length 3: two operand bytes, the low one first (30_encoding.md R51). -/
def entry3 (mnemonic : String) (cycles : Nat) (f : Byte → Byte → Instr) : TableEntry :=
  ⟨mnemonic, 3, cycles, fun _ b1 b2 => f b1 b2⟩

/-- An absent entry for a documented 6502 opcode (30_encoding.md R55, R58): length 0. -/
def absent (mnemonic : String) (i : Instr) : TableEntry :=
  ⟨mnemonic, 0, 0, fun _ _ _ => i⟩

/-- An absent entry for an undocumented byte (30_encoding.md R55, R58): length 0. -/
def dot : TableEntry :=
  ⟨"(none)", 0, 0, fun op _ _ => .undocumented op⟩

/-- Row 0x of the opcode map (30_encoding.md R57, R58). -/
def opcodeRow0 : List TableEntry :=
  [entry1 "BRK" 7 .brk, entry2 "ORA" 6 .oraIndx, dot, dot,
   dot, entry2 "ORA" 3 .oraZp, absent "ASL" .aslZp, dot,
   entry1 "PHP" 3 .php, entry2 "ORA" 2 .oraImm, absent "ASL" .aslAcc, dot,
   dot, entry3 "ORA" 4 .oraAbs, absent "ASL" .aslAbs, dot]

/-- Row 1x of the opcode map (30_encoding.md R57, R58). -/
def opcodeRow1 : List TableEntry :=
  [absent "BPL" .bpl, entry2 "ORA" 5 .oraIndy, dot, dot,
   dot, entry2 "ORA" 4 .oraZpx, absent "ASL" .aslZpx, dot,
   entry1 "CLC" 2 .clc, entry3 "ORA" 4 .oraAbsy, dot, dot,
   dot, entry3 "ORA" 4 .oraAbsx, absent "ASL" .aslAbsx, dot]

/-- Row 2x of the opcode map (30_encoding.md R57, R58). -/
def opcodeRow2 : List TableEntry :=
  [absent "JSR" .jsr, entry2 "AND" 6 .andIndx, dot, dot,
   absent "BIT" .bitZp, entry2 "AND" 3 .andZp, absent "ROL" .rolZp, dot,
   entry1 "PLP" 4 .plp, entry2 "AND" 2 .andImm, absent "ROL" .rolAcc, dot,
   absent "BIT" .bitAbs, entry3 "AND" 4 .andAbs, absent "ROL" .rolAbs, dot]

/-- Row 3x of the opcode map (30_encoding.md R57, R58). -/
def opcodeRow3 : List TableEntry :=
  [absent "BMI" .bmi, entry2 "AND" 5 .andIndy, dot, dot,
   dot, entry2 "AND" 4 .andZpx, absent "ROL" .rolZpx, dot,
   entry1 "SEC" 2 .sec, entry3 "AND" 4 .andAbsy, dot, dot,
   dot, entry3 "AND" 4 .andAbsx, absent "ROL" .rolAbsx, dot]

/-- Row 4x of the opcode map (30_encoding.md R57, R58). -/
def opcodeRow4 : List TableEntry :=
  [absent "RTI" .rti, entry2 "EOR" 6 .eorIndx, dot, dot,
   dot, entry2 "EOR" 3 .eorZp, entry2 "LSR" 5 .lsrZp, dot,
   entry1 "PHA" 3 .pha, entry2 "EOR" 2 .eorImm, entry1 "LSR" 2 .lsrAcc, dot,
   entry3 "JMP" 3 .jmpAbs, entry3 "EOR" 4 .eorAbs, entry3 "LSR" 6 .lsrAbs, dot]

/-- Row 5x of the opcode map (30_encoding.md R57, R58). -/
def opcodeRow5 : List TableEntry :=
  [absent "BVC" .bvc, entry2 "EOR" 5 .eorIndy, dot, dot,
   dot, entry2 "EOR" 4 .eorZpx, entry2 "LSR" 6 .lsrZpx, dot,
   entry1 "CLI" 2 .cli, entry3 "EOR" 4 .eorAbsy, dot, dot,
   dot, entry3 "EOR" 4 .eorAbsx, entry3 "LSR" 7 .lsrAbsx, dot]

/-- Row 6x of the opcode map (30_encoding.md R57, R58). -/
def opcodeRow6 : List TableEntry :=
  [absent "RTS" .rts, entry2 "ADC" 6 .adcIndx, dot, dot,
   dot, entry2 "ADC" 3 .adcZp, absent "ROR" .rorZp, dot,
   entry1 "PLA" 4 .pla, entry2 "ADC" 2 .adcImm, absent "ROR" .rorAcc, dot,
   entry3 "JMP" 5 .jmpInd, entry3 "ADC" 4 .adcAbs, absent "ROR" .rorAbs, dot]

/-- Row 7x of the opcode map (30_encoding.md R57, R58). -/
def opcodeRow7 : List TableEntry :=
  [absent "BVS" .bvs, entry2 "ADC" 5 .adcIndy, dot, dot,
   dot, entry2 "ADC" 4 .adcZpx, absent "ROR" .rorZpx, dot,
   entry1 "SEI" 2 .sei, entry3 "ADC" 4 .adcAbsy, dot, dot,
   dot, entry3 "ADC" 4 .adcAbsx, absent "ROR" .rorAbsx, dot]

/-- Row 8x of the opcode map (30_encoding.md R57, R58). -/
def opcodeRow8 : List TableEntry :=
  [dot, entry2 "STA" 6 .staIndx, dot, dot,
   entry2 "STY" 3 .styZp, entry2 "STA" 3 .staZp, entry2 "STX" 3 .stxZp, dot,
   entry1 "DEY" 2 .dey, dot, entry1 "TXA" 2 .txa, dot,
   entry3 "STY" 4 .styAbs, entry3 "STA" 4 .staAbs, entry3 "STX" 4 .stxAbs, dot]

/-- Row 9x of the opcode map (30_encoding.md R57, R58). -/
def opcodeRow9 : List TableEntry :=
  [absent "BCC" .bcc, entry2 "STA" 6 .staIndy, dot, dot,
   entry2 "STY" 4 .styZpx, entry2 "STA" 4 .staZpx, entry2 "STX" 4 .stxZpy, dot,
   entry1 "TYA" 2 .tya, entry3 "STA" 5 .staAbsy, entry1 "TXS" 2 .txs, dot,
   dot, entry3 "STA" 5 .staAbsx, dot, dot]

/-- Row Ax of the opcode map (30_encoding.md R57, R58). -/
def opcodeRowA : List TableEntry :=
  [entry2 "LDY" 2 .ldyImm, entry2 "LDA" 6 .ldaIndx, entry2 "LDX" 2 .ldxImm, dot,
   entry2 "LDY" 3 .ldyZp, entry2 "LDA" 3 .ldaZp, entry2 "LDX" 3 .ldxZp, dot,
   entry1 "TAY" 2 .tay, entry2 "LDA" 2 .ldaImm, entry1 "TAX" 2 .tax, dot,
   entry3 "LDY" 4 .ldyAbs, entry3 "LDA" 4 .ldaAbs, entry3 "LDX" 4 .ldxAbs, dot]

/-- Row Bx of the opcode map (30_encoding.md R57, R58). -/
def opcodeRowB : List TableEntry :=
  [absent "BCS" .bcs, entry2 "LDA" 5 .ldaIndy, dot, dot,
   entry2 "LDY" 4 .ldyZpx, entry2 "LDA" 4 .ldaZpx, entry2 "LDX" 4 .ldxZpy, dot,
   entry1 "CLV" 2 .clv, entry3 "LDA" 4 .ldaAbsy, entry1 "TSX" 2 .tsx, dot,
   entry3 "LDY" 4 .ldyAbsx, entry3 "LDA" 4 .ldaAbsx, entry3 "LDX" 4 .ldxAbsy, dot]

/-- Row Cx of the opcode map (30_encoding.md R57, R58). -/
def opcodeRowC : List TableEntry :=
  [entry2 "CPY" 2 .cpyImm, entry2 "CMP" 6 .cmpIndx, dot, dot,
   entry2 "CPY" 3 .cpyZp, entry2 "CMP" 3 .cmpZp, entry2 "DEC" 5 .decZp, dot,
   entry1 "INY" 2 .iny, entry2 "CMP" 2 .cmpImm, entry1 "DEX" 2 .dex, dot,
   entry3 "CPY" 4 .cpyAbs, entry3 "CMP" 4 .cmpAbs, entry3 "DEC" 6 .decAbs, dot]

/-- Row Dx of the opcode map (30_encoding.md R57, R58). -/
def opcodeRowD : List TableEntry :=
  [absent "BNE" .bne, entry2 "CMP" 5 .cmpIndy, dot, dot,
   dot, entry2 "CMP" 4 .cmpZpx, entry2 "DEC" 6 .decZpx, dot,
   entry1 "CLD" 2 .cld, entry3 "CMP" 4 .cmpAbsy, dot, dot,
   dot, entry3 "CMP" 4 .cmpAbsx, entry3 "DEC" 7 .decAbsx, dot]

/-- Row Ex of the opcode map (30_encoding.md R57, R58). -/
def opcodeRowE : List TableEntry :=
  [entry2 "CPX" 2 .cpxImm, absent "SBC" .sbcIndx, dot, dot,
   entry2 "CPX" 3 .cpxZp, absent "SBC" .sbcZp, entry2 "INC" 5 .incZp, dot,
   entry1 "INX" 2 .inx, absent "SBC" .sbcImm, entry1 "NOP" 2 .nop, dot,
   entry3 "CPX" 4 .cpxAbs, absent "SBC" .sbcAbs, entry3 "INC" 6 .incAbs, dot]

/-- Row Fx of the opcode map (30_encoding.md R57, R58). -/
def opcodeRowF : List TableEntry :=
  [absent "BEQ" .beq, absent "SBC" .sbcIndy, dot, dot,
   dot, absent "SBC" .sbcZpx, entry2 "INC" 6 .incZpx, dot,
   entry1 "SED" 2 .sed, absent "SBC" .sbcAbsy, dot, dot,
   dot, absent "SBC" .sbcAbsx, entry3 "INC" 7 .incAbsx, dot]

/-- The opcode table as the 16 by 16 map of 30_encoding.md R58: rows by high nibble. Its contents
are a constant (R56); whether it has been built is State's mark (log 12). -/
def opcodeRows : List (List TableEntry) :=
  [opcodeRow0, opcodeRow1, opcodeRow2, opcodeRow3, opcodeRow4, opcodeRow5, opcodeRow6, opcodeRow7,
   opcodeRow8, opcodeRow9, opcodeRowA, opcodeRowB, opcodeRowC, opcodeRowD, opcodeRowE, opcodeRowF]

/-- `Table[op]` (30_encoding.md R52): the whole opcode byte indexes the table. -/
def tableEntry (op : Byte) : TableEntry :=
  (opcodeRows.getD (op.toNat / 16) []).getD (op.toNat % 16) dot

/-- Decode: the instruction of an opcode byte and the two bytes after it. It is total, and a byte past the entry's length
is not used (30_encoding.md R59). -/
def decode (op b1 b2 : Byte) : Instr := (tableEntry op).build op b1 b2

/-- Why a list of bytes holds no instruction. -/
inductive DecodeError where
  /-- There is no byte. -/
  | noBytes
  /-- The opcode's entry needs more operand bytes than there are. -/
  | truncated (op : Byte)
  deriving DecidableEq, Repr

/-- Decode of a byte list: the instruction and the bytes after it. Every opcode byte has an instruction (R52); an absent
entry (length 0) takes its one byte, since the step leaves `pc` just past it (60_exceptions.md R134). Log 26: DESIGN CHOICE, safe. -/
def decodeBytes (bs : List Byte) : Except DecodeError (Instr × List Byte) :=
  match bs with
  | [] => .error .noBytes
  | op :: rest =>
    let k := (tableEntry op).length - 1
    if rest.length < k then .error (.truncated op)
    else .ok (decode op (rest.getD 0 0) (rest.getD 1 0), rest.drop k)

/-- The opcode byte of an instruction (30_encoding.md R57, R58), from the per-mnemonic list. -/
def Instr.opcode (i : Instr) : Byte :=
  match i with
  | .ldaImm _ => 0xA9
  | .ldaZp _ => 0xA5
  | .ldaZpx _ => 0xB5
  | .ldaAbs _ _ => 0xAD
  | .ldaAbsx _ _ => 0xBD
  | .ldaAbsy _ _ => 0xB9
  | .ldaIndx _ => 0xA1
  | .ldaIndy _ => 0xB1
  | .ldxImm _ => 0xA2
  | .ldxZp _ => 0xA6
  | .ldxZpy _ => 0xB6
  | .ldxAbs _ _ => 0xAE
  | .ldxAbsy _ _ => 0xBE
  | .ldyImm _ => 0xA0
  | .ldyZp _ => 0xA4
  | .ldyZpx _ => 0xB4
  | .ldyAbs _ _ => 0xAC
  | .ldyAbsx _ _ => 0xBC
  | .staZp _ => 0x85
  | .staZpx _ => 0x95
  | .staAbs _ _ => 0x8D
  | .staAbsx _ _ => 0x9D
  | .staAbsy _ _ => 0x99
  | .staIndx _ => 0x81
  | .staIndy _ => 0x91
  | .stxZp _ => 0x86
  | .stxZpy _ => 0x96
  | .stxAbs _ _ => 0x8E
  | .styZp _ => 0x84
  | .styZpx _ => 0x94
  | .styAbs _ _ => 0x8C
  | .cmpImm _ => 0xC9
  | .cmpZp _ => 0xC5
  | .cmpZpx _ => 0xD5
  | .cmpAbs _ _ => 0xCD
  | .cmpAbsx _ _ => 0xDD
  | .cmpAbsy _ _ => 0xD9
  | .cmpIndx _ => 0xC1
  | .cmpIndy _ => 0xD1
  | .cpxImm _ => 0xE0
  | .cpxZp _ => 0xE4
  | .cpxAbs _ _ => 0xEC
  | .cpyImm _ => 0xC0
  | .cpyZp _ => 0xC4
  | .cpyAbs _ _ => 0xCC
  | .incZp _ => 0xE6
  | .incZpx _ => 0xF6
  | .incAbs _ _ => 0xEE
  | .incAbsx _ _ => 0xFE
  | .decZp _ => 0xC6
  | .decZpx _ => 0xD6
  | .decAbs _ _ => 0xCE
  | .decAbsx _ _ => 0xDE
  | .inx => 0xE8
  | .iny => 0xC8
  | .dex => 0xCA
  | .dey => 0x88
  | .andImm _ => 0x29
  | .andZp _ => 0x25
  | .andZpx _ => 0x35
  | .andAbs _ _ => 0x2D
  | .andAbsx _ _ => 0x3D
  | .andAbsy _ _ => 0x39
  | .andIndx _ => 0x21
  | .andIndy _ => 0x31
  | .oraImm _ => 0x09
  | .oraZp _ => 0x05
  | .oraZpx _ => 0x15
  | .oraAbs _ _ => 0x0D
  | .oraAbsx _ _ => 0x1D
  | .oraAbsy _ _ => 0x19
  | .oraIndx _ => 0x01
  | .oraIndy _ => 0x11
  | .eorImm _ => 0x49
  | .eorZp _ => 0x45
  | .eorZpx _ => 0x55
  | .eorAbs _ _ => 0x4D
  | .eorAbsx _ _ => 0x5D
  | .eorAbsy _ _ => 0x59
  | .eorIndx _ => 0x41
  | .eorIndy _ => 0x51
  | .lsrAcc => 0x4A
  | .lsrZp _ => 0x46
  | .lsrZpx _ => 0x56
  | .lsrAbs _ _ => 0x4E
  | .lsrAbsx _ _ => 0x5E
  | .pha => 0x48
  | .php => 0x08
  | .pla => 0x68
  | .plp => 0x28
  | .clc => 0x18
  | .sec => 0x38
  | .cld => 0xD8
  | .sed => 0xF8
  | .cli => 0x58
  | .sei => 0x78
  | .clv => 0xB8
  | .tax => 0xAA
  | .txa => 0x8A
  | .tay => 0xA8
  | .tya => 0x98
  | .tsx => 0xBA
  | .txs => 0x9A
  | .jmpAbs _ _ => 0x4C
  | .jmpInd _ _ => 0x6C
  | .brk => 0x00
  | .nop => 0xEA
  | .adcImm _ => 0x69
  | .adcZp _ => 0x65
  | .adcZpx _ => 0x75
  | .adcAbs _ _ => 0x6D
  | .adcAbsx _ _ => 0x7D
  | .adcAbsy _ _ => 0x79
  | .adcIndx _ => 0x61
  | .adcIndy _ => 0x71
  | .bpl => 0x10
  | .bmi => 0x30
  | .bvc => 0x50
  | .bvs => 0x70
  | .bcc => 0x90
  | .bcs => 0xB0
  | .bne => 0xD0
  | .beq => 0xF0
  | .jsr => 0x20
  | .rts => 0x60
  | .rti => 0x40
  | .rolZp => 0x26
  | .rolAcc => 0x2A
  | .rolAbs => 0x2E
  | .rolZpx => 0x36
  | .rolAbsx => 0x3E
  | .rorZp => 0x66
  | .rorAcc => 0x6A
  | .rorAbs => 0x6E
  | .rorZpx => 0x76
  | .rorAbsx => 0x7E
  | .sbcIndx => 0xE1
  | .sbcZp => 0xE5
  | .sbcImm => 0xE9
  | .sbcAbs => 0xED
  | .sbcIndy => 0xF1
  | .sbcZpx => 0xF5
  | .sbcAbsy => 0xF9
  | .sbcAbsx => 0xFD
  | .aslZp => 0x06
  | .aslAcc => 0x0A
  | .aslAbs => 0x0E
  | .aslZpx => 0x16
  | .aslAbsx => 0x1E
  | .bitZp => 0x24
  | .bitAbs => 0x2C
  | .undocumented op => op

/-- The operand bytes of an instruction, in address order (30_encoding.md R51, R53). -/
def Instr.operands (i : Instr) : List Byte :=
  match i with
  | .ldaImm imm => [imm]
  | .ldaZp zp => [zp]
  | .ldaZpx zp => [zp]
  | .ldaAbs lo hi => [lo, hi]
  | .ldaAbsx lo hi => [lo, hi]
  | .ldaAbsy lo hi => [lo, hi]
  | .ldaIndx zp => [zp]
  | .ldaIndy zp => [zp]
  | .ldxImm imm => [imm]
  | .ldxZp zp => [zp]
  | .ldxZpy zp => [zp]
  | .ldxAbs lo hi => [lo, hi]
  | .ldxAbsy lo hi => [lo, hi]
  | .ldyImm imm => [imm]
  | .ldyZp zp => [zp]
  | .ldyZpx zp => [zp]
  | .ldyAbs lo hi => [lo, hi]
  | .ldyAbsx lo hi => [lo, hi]
  | .staZp zp => [zp]
  | .staZpx zp => [zp]
  | .staAbs lo hi => [lo, hi]
  | .staAbsx lo hi => [lo, hi]
  | .staAbsy lo hi => [lo, hi]
  | .staIndx zp => [zp]
  | .staIndy zp => [zp]
  | .stxZp zp => [zp]
  | .stxZpy zp => [zp]
  | .stxAbs lo hi => [lo, hi]
  | .styZp zp => [zp]
  | .styZpx zp => [zp]
  | .styAbs lo hi => [lo, hi]
  | .cmpImm imm => [imm]
  | .cmpZp zp => [zp]
  | .cmpZpx zp => [zp]
  | .cmpAbs lo hi => [lo, hi]
  | .cmpAbsx lo hi => [lo, hi]
  | .cmpAbsy lo hi => [lo, hi]
  | .cmpIndx zp => [zp]
  | .cmpIndy zp => [zp]
  | .cpxImm imm => [imm]
  | .cpxZp zp => [zp]
  | .cpxAbs lo hi => [lo, hi]
  | .cpyImm imm => [imm]
  | .cpyZp zp => [zp]
  | .cpyAbs lo hi => [lo, hi]
  | .incZp zp => [zp]
  | .incZpx zp => [zp]
  | .incAbs lo hi => [lo, hi]
  | .incAbsx lo hi => [lo, hi]
  | .decZp zp => [zp]
  | .decZpx zp => [zp]
  | .decAbs lo hi => [lo, hi]
  | .decAbsx lo hi => [lo, hi]
  | .inx => []
  | .iny => []
  | .dex => []
  | .dey => []
  | .andImm imm => [imm]
  | .andZp zp => [zp]
  | .andZpx zp => [zp]
  | .andAbs lo hi => [lo, hi]
  | .andAbsx lo hi => [lo, hi]
  | .andAbsy lo hi => [lo, hi]
  | .andIndx zp => [zp]
  | .andIndy zp => [zp]
  | .oraImm imm => [imm]
  | .oraZp zp => [zp]
  | .oraZpx zp => [zp]
  | .oraAbs lo hi => [lo, hi]
  | .oraAbsx lo hi => [lo, hi]
  | .oraAbsy lo hi => [lo, hi]
  | .oraIndx zp => [zp]
  | .oraIndy zp => [zp]
  | .eorImm imm => [imm]
  | .eorZp zp => [zp]
  | .eorZpx zp => [zp]
  | .eorAbs lo hi => [lo, hi]
  | .eorAbsx lo hi => [lo, hi]
  | .eorAbsy lo hi => [lo, hi]
  | .eorIndx zp => [zp]
  | .eorIndy zp => [zp]
  | .lsrAcc => []
  | .lsrZp zp => [zp]
  | .lsrZpx zp => [zp]
  | .lsrAbs lo hi => [lo, hi]
  | .lsrAbsx lo hi => [lo, hi]
  | .pha => []
  | .php => []
  | .pla => []
  | .plp => []
  | .clc => []
  | .sec => []
  | .cld => []
  | .sed => []
  | .cli => []
  | .sei => []
  | .clv => []
  | .tax => []
  | .txa => []
  | .tay => []
  | .tya => []
  | .tsx => []
  | .txs => []
  | .jmpAbs lo hi => [lo, hi]
  | .jmpInd lo hi => [lo, hi]
  | .brk => []
  | .nop => []
  | .adcImm imm => [imm]
  | .adcZp zp => [zp]
  | .adcZpx zp => [zp]
  | .adcAbs lo hi => [lo, hi]
  | .adcAbsx lo hi => [lo, hi]
  | .adcAbsy lo hi => [lo, hi]
  | .adcIndx zp => [zp]
  | .adcIndy zp => [zp]
  | .bpl => []
  | .bmi => []
  | .bvc => []
  | .bvs => []
  | .bcc => []
  | .bcs => []
  | .bne => []
  | .beq => []
  | .jsr => []
  | .rts => []
  | .rti => []
  | .rolZp => []
  | .rolAcc => []
  | .rolAbs => []
  | .rolZpx => []
  | .rolAbsx => []
  | .rorZp => []
  | .rorAcc => []
  | .rorAbs => []
  | .rorZpx => []
  | .rorAbsx => []
  | .sbcIndx => []
  | .sbcZp => []
  | .sbcImm => []
  | .sbcAbs => []
  | .sbcIndy => []
  | .sbcZpx => []
  | .sbcAbsy => []
  | .sbcAbsx => []
  | .aslZp => []
  | .aslAcc => []
  | .aslAbs => []
  | .aslZpx => []
  | .aslAbsx => []
  | .bitZp => []
  | .bitAbs => []
  | .undocumented _ => []

/-- Encode: the opcode byte, then the operand bytes (30_encoding.md R51). -/
def encode (i : Instr) : List Byte := i.opcode :: i.operands

/-- The opcode that an absent instruction reports (60_exceptions.md R134); none for a present one. -/
def Instr.absentOpcode (i : Instr) : Option Byte :=
  match i with
  | .bpl | .bmi | .bvc | .bvs | .bcc | .bcs | .bne | .beq | .jsr | .rts | .rti | .rolZp
  | .rolAcc | .rolAbs | .rolZpx | .rolAbsx | .rorZp | .rorAcc | .rorAbs | .rorZpx | .rorAbsx | .sbcIndx | .sbcZp | .sbcImm
  | .sbcAbs | .sbcIndy | .sbcZpx | .sbcAbsy | .sbcAbsx | .aslZp | .aslAcc | .aslAbs | .aslZpx | .aslAbsx | .bitZp | .bitAbs => some i.opcode
  | .undocumented op => some op
  | _ => none

/-- Byte `k` of a word whose bytes count up from its least significant one. -/
def byteOf (w k : Nat) : Byte := BitVec.ofNat 8 (w / 256 ^ k)

/-- What the decoder reads from an instruction whose first `nbits` bits are `w`, byte 0 the lowest, and whose further
bytes are 0. -/
def decodeTableWord (nbits w : Nat) : Option Instr :=
  let v := w % 2 ^ nbits
  match decodeBytes [byteOf v 0, byteOf v 1, byteOf v 2] with
  | .ok (i, _) => some i
  | .error _ => none

end Sys2Proof
end

