-- ==== Sys2Proof/Machine/Fetch.lean ====
section
/-! DEFINITION. Fetching an instruction's bytes (30_encoding.md R51, R62). -/

namespace Sys2Proof.Machine

/-- The three bytes at `pc`; an instruction may wrap from 0xFFFF to 0x0000 (10_state.md R20, 30_encoding.md R51). -/
def fetchBytes (s : State) : List Byte :=
  [memRead s s.pc, memRead s (s.pc + 1), memRead s (s.pc + 2)]

/-- The instruction at `pc`: the opcode byte selects the entry and the next bytes are its operands, as far as the entry
takes any. A read changes nothing (20_memory.md R42), so reading a byte the entry does not take is no effect. Log 14: DEDUCED, safe. -/
def fetchInstr (s : State) : Instr :=
  decode (memRead s s.pc) (memRead s (s.pc + 1)) (memRead s (s.pc + 2))

/-- Three bytes stored at an address and its successors (modulo 65536). -/
def placeBytes (a : Word) (b0 b1 b2 : Byte) (s : State) : State :=
  memWrite (a + 2) b2 (memWrite (a + 1) b1 (memWrite a b0 s))

end Sys2Proof.Machine
end

