-- ==== Sys2Proof/Machine/Step.lean ====
section
/-! DEFINITION. The step (30_encoding.md R62): Fetch, Decode, Resolve, Execute. -/

namespace Sys2Proof.Machine

/-- One step: the instruction at `pc` runs in the state after Fetch. It is atomic (20_memory.md R42; log 14: DEDUCED, safe)
and does not test B (70_reset_and_hazards.md R154). Before `initialize()` it is refused (70_reset_and_hazards.md R151; log 12:
DESIGN CHOICE of the spec (D25), safe). -/
def step (s : State) : Host.Outcome State Fault Refusal :=
  if s.initialized then exec (fetchInstr s) (fetchLatch s) else .refused .notInitialized

/-- The state with an instruction placed where the next step fetches it: its bytes, the first `nbits` bits those of `w` and
the further ones 0, stored at `pc`, `pc + 1` and `pc + 2`; and with the opcode table built, without which no step fetches
(70_reset_and_hazards.md R151). Log 11: DESIGN CHOICE, safe. -/
def State.withFetchWord (s : State) (nbits w : Nat) : State :=
  placeBytes s.pc (byteOf (w % 2 ^ nbits) 0) (byteOf (w % 2 ^ nbits) 1) (byteOf (w % 2 ^ nbits) 2)
    { s with initialized := true }

end Sys2Proof.Machine
end

