-- ==== Sys2Proof/Machine/HostOps.lean ====
section
/-! DEFINITION. The boundary operations the core exposes to its host (70_reset_and_hazards.md R149): what the outside world
can do to the machine. Each happens wholly between steps (R150; log 13: DESIGN CHOICE (D22), unsafe). -/

namespace Sys2Proof.Machine

/-- `initialize()` (R151): it builds the opcode table and changes no register and no memory. The table's contents are a
constant (30_encoding.md R56), so what changes is the mark that it is built; a second call changes nothing. Log 12: DESIGN
CHOICE of the spec (D25), safe. -/
def hostInit (s : State) : State := { s with initialized := true }

/-- `read_byte(addr)` (R156). -/
def readByte (a : Word) (s : State) : Byte := memRead s a

/-- `write_byte(addr, value)` (R156). -/
def writeByte (a : Word) (v : Byte) (s : State) : State := memWrite a v s

/-- The copy loop of `load_program` (R152): byte `k` of one block goes to 0x8000 + k, of the other to 0xC000 + k. -/
def loadBlocks (k : Nat) (first second : List Byte) (m : Memory) : Memory :=
  match first, second with
  | b1 :: rest1, b2 :: rest2 =>
    loadBlocks (k + 1) rest1 rest2 (Memory.write (Memory.write m (0x8000 + k) b1) (0xC000 + k) b2)
  | _, _ => m

/-- `load_program(bytes, block_count)` (R152): one 16 KiB block goes to both places, two go one after the other; any other call
is refused (D16; log 23: DESIGN CHOICE (D16), safe). No register changes. -/
def loadProgram (bytes : List Byte) (blockCount : Nat) (s : State) : StepOutcome :=
  if blockCount = 1 ∧ bytes.length = 16384 then
    .next { s with mem := loadBlocks 0 bytes bytes s.mem }
  else if blockCount = 2 ∧ bytes.length = 32768 then
    .next { s with mem := loadBlocks 0 (bytes.take 16384) (bytes.drop 16384) s.mem }
  else .refused .loadProgramArguments

/-- `reset()` (R153): `pc` takes the word at 0xFFFC; nothing else changes. -/
def hostReset (s : State) : State := { s with pc := read16 s 0xFFFC }

/-- `get_status_byte()` (R157). -/
def getStatusByte (s : State) : Byte := pack s

/-- `set_status_byte(value)` (R157). -/
def setStatusByte (v : Byte) (s : State) : State := unpack v s

/-- What `step()` reports to the host (R154). -/
inductive StepReport where
  | ok
  | unknownOpcode (op : Byte)
  deriving DecidableEq, Repr

/-- The report of a step from `s`: whether an unknown opcode halted it (R154, 60_exceptions.md R134). -/
def stepReport (s : State) : StepReport :=
  match (fetchInstr s).absentOpcode with
  | some op => .unknownOpcode op
  | none => .ok

/-- `step()` (R154): one step and its report. It does not test B. Before `initialize()` it is refused (R151), as `step` is. -/
def hostStep (s : State) : Host.Outcome (StepReport × State) Fault Refusal :=
  match step s with
  | .next t => .next (stepReport s, t)
  | .fault r => .fault r
  | .refused r => .refused r

/-- Where `run()` is after some number of steps: it returned to the host, or it is still running. -/
inductive RunResult where
  | returned (s : State)
  | running (s : State)
  deriving DecidableEq, Repr

/-- `run()` for at most `fuel` steps (R155): B is tested before each step, and an unknown opcode does not end it. A run that
never sets B is `running` for every `fuel`. Log 24: DESIGN CHOICE, safe. Before `initialize()` it is refused, whatever B is
(R151; log 12). -/
def hostRun (fuel : Nat) (s : State) : Host.Outcome RunResult Fault Refusal :=
  if s.initialized then
    if s.flagB then .next (.returned s)
    else
      match fuel with
      | 0 => .next (.running s)
      | k + 1 =>
        match step s with
        | .next t => hostRun k t
        | .fault r => .fault r
        | .refused r => .refused r
  else .refused .notInitialized

end Sys2Proof.Machine
end

