-- ==== Sys2Proof/Safety.lean ====
section
/-! DEFINITION. The terms the statements use: what a launch and the end of a run are, which location an instruction
stores to, and who writes what, as the spec's tables list it. -/

namespace Sys2Proof.Safety

open Sys2Proof.Machine

/-- The unknown-opcode record is empty, the premise of a claim about a program (60_exceptions.md R136). -/
def clean (s : State) : Bool := s.faultRecord.isEmpty

/-- A launch state, which is one after the host's boot steps (70_reset_and_hazards.md R159, R160): `initialize()` has been
called, `pc` is the reset vector, B = 0, and the record is empty. Everything else is any value. -/
abbrev Launch (s : State) : Prop :=
  s.initialized = true ∧ s.pc = word16 (memRead s 0xFFFD) (memRead s 0xFFFC) ∧ s.flagB = false ∧ s.faultRecord = []

/-- The terminal state of a run (70_reset_and_hazards.md R161). -/
def terminal (s : State) : Bool := s.flagB

/-- The invariant of memory: it is in its canonical form (20_memory.md R35: 65536 bytes, one per address). -/
abbrev Canonical (s : State) : Prop := Memory.wf s.mem = true

/-- The byte at the effective address of a resolved state (40_addressing.md R85). -/
def byteAtEA (r : State) : Byte := memRead r (word16 r.th r.tl)

/-- The accumulator takes `v`, and Z and N are set from it; nothing else changes. -/
def accTakes (v : Byte) (r : State) : StepOutcome :=
  .next { r with acc := v, flagZ := decide (v = 0), flagN := v.getLsbD 7 }

/-- X takes `v`, and Z and N are set from it; nothing else changes. -/
def xTakes (v : Byte) (r : State) : StepOutcome :=
  .next { r with x := v, flagZ := decide (v = 0), flagN := v.getLsbD 7 }

/-- Y takes `v`, and Z and N are set from it; nothing else changes. -/
def yTakes (v : Byte) (r : State) : StepOutcome :=
  .next { r with y := v, flagZ := decide (v = 0), flagN := v.getLsbD 7 }

/-- The flags of a compare of register value `reg` with `v` (42_compare_incdec.md R93); nothing else changes. -/
def compared (reg v : Byte) (r : State) : StepOutcome :=
  .next { r with
    flagC := decide (v.toNat ≤ reg.toNat), flagZ := decide (reg = v), flagN := (reg - v).getLsbD 7 }

/-- The byte at the effective address takes `v`; nothing else changes. -/
def eaTakes (v : Byte) (r : State) : StepOutcome :=
  .next { r with mem := Memory.write r.mem (word16 r.th r.tl).toNat v }

/-- The byte at the effective address takes `v`, and Z and N are set from it; nothing else changes. -/
def eaTakesZN (v : Byte) (r : State) : StepOutcome :=
  .next { r with
    mem := Memory.write r.mem (word16 r.th r.tl).toNat v, flagZ := decide (v = 0), flagN := v.getLsbD 7 }

/-- The byte at the effective address takes `v` shifted right by one, C its old bit 0, Z the result's, N is 0
(43_logic_shift.md R106); nothing else changes. -/
def eaShifts (v : Byte) (r : State) : StepOutcome :=
  .next { r with
    mem := Memory.write r.mem (word16 r.th r.tl).toNat (v >>> 1), flagC := v.getLsbD 0
    flagZ := decide (v >>> 1 = 0), flagN := false }

/-- The byte a pull reads (44_stack.md R108): the one at the incremented `sp`. -/
def stackTop (s : State) : Byte := memRead s (Config.stackBase + zext16 (s.sp + 1))

/-- ADC with D = 0 of operand `v` (47_arithmetic.md R131): the sum, its carry out, Z and N; V is the free value of this ADC. -/
def adcSums (v : Byte) (r : State) : StepOutcome :=
  .next { r with
    acc := r.acc + v + (if r.flagC then 1 else 0)
    flagC := decide (256 ≤ r.acc.toNat + v.toNat + (if r.flagC then 1 else 0))
    flagZ := decide (r.acc + v + (if r.flagC then 1 else 0) = 0)
    flagN := (r.acc + v + (if r.flagC then 1 else 0)).getLsbD 7
    flagV := Config.adcOverflow r.draws
    draws := r.draws + 1 }

/-- ADC with D = 1 (47_arithmetic.md R132): the accumulator and four flags are the free values of this ADC. -/
def adcDrawn (r : State) : StepOutcome :=
  .next { r with
    acc := (Config.adcDecimal r.draws).acc
    flagC := (Config.adcDecimal r.draws).carry
    flagZ := (Config.adcDecimal r.draws).zero
    flagN := (Config.adcDecimal r.draws).negative
    flagV := (Config.adcDecimal r.draws).overflow
    draws := r.draws + 1 }

/-- The unknown-opcode outcome of 60_exceptions.md R134 and R136, after Fetch: only the record changes. -/
def recorded (op : Byte) (s : State) : StepOutcome :=
  .next { s with faultRecord := s.faultRecord ++ [(s.pc - 1, op)] }

/-- The address an instruction stores to, if it stores (20_memory.md R36): the effective address its resolver gives, or the stack
byte. The state is the one `exec` is called with. -/
def storeAddr (i : Instr) (s : State) : Option Word :=
  match i with
  | .staZp zp | .stxZp zp | .styZp zp | .incZp zp | .decZp zp | .lsrZp zp
    => some (effAddr (resolveZp zp s))
  | .staZpx zp | .styZpx zp | .incZpx zp | .decZpx zp | .lsrZpx zp
    => some (effAddr (resolveZpx zp s))
  | .stxZpy zp
    => some (effAddr (resolveZpy zp s))
  | .staAbs lo hi | .stxAbs lo hi | .styAbs lo hi | .incAbs lo hi | .decAbs lo hi | .lsrAbs lo hi
    => some (effAddr (resolveAbs lo hi s))
  | .staAbsx lo hi | .incAbsx lo hi | .decAbsx lo hi | .lsrAbsx lo hi
    => some (effAddr (resolveAbsx lo hi s))
  | .staAbsy lo hi
    => some (effAddr (resolveAbsy lo hi s))
  | .staIndx zp
    => some (effAddr (resolveIndx zp s))
  | .staIndy zp
    => some (effAddr (resolveIndy zp s))
  | .pha | .php => some (stackAddr s.sp)
  | _ => none

/-- The byte an instruction stores at `storeAddr i s` (41_load_store.md R90-R92, 42_compare_incdec.md R97, R98, 43_logic_shift.md R106,
44_stack.md R109, R110), where `a` is that address. -/
def storedByte (i : Instr) (s : State) (a : Word) : Byte :=
  match i with
  | .staZp _ | .staZpx _ | .staAbs _ _ | .staAbsx _ _ | .staAbsy _ _ | .staIndx _ | .staIndy _ => s.acc
  | .stxZp _ | .stxZpy _ | .stxAbs _ _ => s.x
  | .styZp _ | .styZpx _ | .styAbs _ _ => s.y
  | .incZp _ | .incZpx _ | .incAbs _ _ | .incAbsx _ _ => memRead s a + 1
  | .decZp _ | .decZpx _ | .decAbs _ _ | .decAbsx _ _ => memRead s a - 1
  | .lsrZp _ | .lsrZpx _ | .lsrAbs _ _ | .lsrAbsx _ _ => memRead s a >>> 1
  | .pha => s.acc
  | .php => pack s
  | _ => 0

/-- The writers of `acc` (10_state.md R19). -/
def writesAcc (i : Instr) : Bool :=
  match i with
  | .ldaImm _ | .ldaZp _ | .ldaZpx _ | .ldaAbs _ _ | .ldaAbsx _ _ | .ldaAbsy _ _
  | .ldaIndx _ | .ldaIndy _ | .andImm _ | .andZp _ | .andZpx _ | .andAbs _ _
  | .andAbsx _ _ | .andAbsy _ _ | .andIndx _ | .andIndy _ | .oraImm _ | .oraZp _
  | .oraZpx _ | .oraAbs _ _ | .oraAbsx _ _ | .oraAbsy _ _ | .oraIndx _ | .oraIndy _
  | .eorImm _ | .eorZp _ | .eorZpx _ | .eorAbs _ _ | .eorAbsx _ _ | .eorAbsy _ _
  | .eorIndx _ | .eorIndy _ | .lsrAcc | .pla | .txa | .tya
  | .adcImm _ | .adcZp _ | .adcZpx _ | .adcAbs _ _ | .adcAbsx _ _ | .adcAbsy _ _
  | .adcIndx _ | .adcIndy _ => true
  | _ => false

/-- The writers of `x` (10_state.md R19). -/
def writesX (i : Instr) : Bool :=
  match i with
  | .ldxImm _ | .ldxZp _ | .ldxZpy _ | .ldxAbs _ _ | .ldxAbsy _ _ | .inx
  | .dex | .tax | .tsx => true
  | _ => false

/-- The writers of `y` (10_state.md R19). -/
def writesY (i : Instr) : Bool :=
  match i with
  | .ldyImm _ | .ldyZp _ | .ldyZpx _ | .ldyAbs _ _ | .ldyAbsx _ _ | .iny
  | .dey | .tay => true
  | _ => false

/-- The writers of `sp` (10_state.md R22). -/
def writesSp (i : Instr) : Bool :=
  match i with
  | .pha | .php | .pla | .plp | .txs => true
  | _ => false

/-- The writers of C (10_state.md R23). -/
def writesC (i : Instr) : Bool :=
  match i with
  | .cmpImm _ | .cmpZp _ | .cmpZpx _ | .cmpAbs _ _ | .cmpAbsx _ _ | .cmpAbsy _ _
  | .cmpIndx _ | .cmpIndy _ | .cpxImm _ | .cpxZp _ | .cpxAbs _ _ | .cpyImm _
  | .cpyZp _ | .cpyAbs _ _ | .lsrAcc | .lsrZp _ | .lsrZpx _ | .lsrAbs _ _
  | .lsrAbsx _ _ | .plp | .clc | .sec | .adcImm _ | .adcZp _
  | .adcZpx _ | .adcAbs _ _ | .adcAbsx _ _ | .adcAbsy _ _ | .adcIndx _ | .adcIndy _ => true
  | _ => false

/-- The writers of Z, which are those of N (10_state.md R23). -/
def writesZN (i : Instr) : Bool :=
  match i with
  | .ldaImm _ | .ldaZp _ | .ldaZpx _ | .ldaAbs _ _ | .ldaAbsx _ _ | .ldaAbsy _ _
  | .ldaIndx _ | .ldaIndy _ | .ldxImm _ | .ldxZp _ | .ldxZpy _ | .ldxAbs _ _
  | .ldxAbsy _ _ | .ldyImm _ | .ldyZp _ | .ldyZpx _ | .ldyAbs _ _ | .ldyAbsx _ _
  | .cmpImm _ | .cmpZp _ | .cmpZpx _ | .cmpAbs _ _ | .cmpAbsx _ _ | .cmpAbsy _ _
  | .cmpIndx _ | .cmpIndy _ | .cpxImm _ | .cpxZp _ | .cpxAbs _ _ | .cpyImm _
  | .cpyZp _ | .cpyAbs _ _ | .incZp _ | .incZpx _ | .incAbs _ _ | .incAbsx _ _
  | .decZp _ | .decZpx _ | .decAbs _ _ | .decAbsx _ _ | .inx | .iny
  | .dex | .dey | .andImm _ | .andZp _ | .andZpx _ | .andAbs _ _
  | .andAbsx _ _ | .andAbsy _ _ | .andIndx _ | .andIndy _ | .oraImm _ | .oraZp _
  | .oraZpx _ | .oraAbs _ _ | .oraAbsx _ _ | .oraAbsy _ _ | .oraIndx _ | .oraIndy _
  | .eorImm _ | .eorZp _ | .eorZpx _ | .eorAbs _ _ | .eorAbsx _ _ | .eorAbsy _ _
  | .eorIndx _ | .eorIndy _ | .lsrAcc | .lsrZp _ | .lsrZpx _ | .lsrAbs _ _
  | .lsrAbsx _ _ | .pla | .plp | .tax | .txa | .tay
  | .tya | .tsx | .adcImm _ | .adcZp _ | .adcZpx _ | .adcAbs _ _
  | .adcAbsx _ _ | .adcAbsy _ _ | .adcIndx _ | .adcIndy _ => true
  | _ => false

/-- The writers of I (10_state.md R23). -/
def writesI (i : Instr) : Bool :=
  match i with
  | .plp | .cli | .sei => true
  | _ => false

/-- The writers of D (10_state.md R23). -/
def writesD (i : Instr) : Bool :=
  match i with
  | .plp | .cld | .sed => true
  | _ => false

/-- The writers of B (10_state.md R23). -/
def writesB (i : Instr) : Bool :=
  match i with
  | .plp | .brk => true
  | _ => false

/-- The writers of V (10_state.md R23). -/
def writesV (i : Instr) : Bool :=
  match i with
  | .plp | .clv | .adcImm _ | .adcZp _ | .adcZpx _ | .adcAbs _ _
  | .adcAbsx _ _ | .adcAbsy _ _ | .adcIndx _ | .adcIndy _ => true
  | _ => false

/-- The only control transfer (46_control_system.md R129). -/
def isJump (i : Instr) : Bool :=
  match i with
  | .jmpAbs _ _ | .jmpInd _ _ => true
  | _ => false

/-- The only instruction that draws (00_scope.md R11). -/
def isAdc (i : Instr) : Bool :=
  match i with
  | .adcImm _ | .adcZp _ | .adcZpx _ | .adcAbs _ _ | .adcAbsx _ _ | .adcAbsy _ _
  | .adcIndx _ | .adcIndy _ => true
  | _ => false

end Sys2Proof.Safety
end

