-- ==== Sys2Proof/Certificates/Slice0/Obligations.lean ====
section
/-! DEFINITION. The statements for the provers. Each docstring names the rules it formalises; where a statement rests on a
choice of the model's or a decision of the spec's own, it names the log entry. -/

open Sys2Proof Sys2Proof.Machine Sys2Proof.Safety

/-- R153, with R152 for where the vector of a one-block image lies. "Nothing else" is the spec's decision D28. -/
def Obligations.ResetLoadsOnlyThePc : Prop :=
  (∀ s : State, hostReset s = { s with pc := word16 (memRead s 0xFFFD) (memRead s 0xFFFC) }) ∧
  ∀ (bytes : List Byte) (s t : State), Canonical s → loadProgram bytes 1 s = .next t →
    (hostReset t).pc = word16 (bytes.getD 0x3FFD 0) (bytes.getD 0x3FFC 0)

/-- `initialize()` comes before `reset()` (R159). The values but pc's and the mark's are the model's choice (logs 7, 8, 9, 10):
the spec leaves them unspecified (R34). -/
def Obligations.ResetStateHoldsTheLoggedValues : Prop :=
  hostReset State.reset = State.reset ∧ State.reset.initialized = true ∧
  State.reset.pc = 0 ∧ State.reset.sp = 0 ∧ State.reset.acc = 0 ∧
  State.reset.x = 0 ∧ State.reset.y = 0 ∧ State.reset.ir = 0 ∧ State.reset.tl = 0 ∧ State.reset.th = 0 ∧
  State.reset.flagC = false ∧ State.reset.flagZ = false ∧ State.reset.flagI = false ∧
  State.reset.flagD = false ∧ State.reset.flagB = false ∧ State.reset.flagV = false ∧
  State.reset.flagN = false ∧ (∀ a : Word, memRead State.reset a = 0) ∧
  State.reset.faultRecord = [] ∧ State.reset.draws = 0

/-- The invariant of `StepKeepsMemoryCanonical` holds at reset. -/
def Obligations.ResetMemoryIsCanonical : Prop :=
  Canonical State.reset

/-- R35: 65536 bytes, one per address; no step (R62) writes outside them (R37). -/
def Obligations.StepKeepsMemoryCanonical : Prop :=
  ∀ s t : State, Canonical s → step s = .next t → Canonical t

/-- The invariant under the host's moves (R152, R156). -/
def Obligations.HostOperationsKeepMemoryCanonical : Prop :=
  (∀ (s : State) (a : Word) (v : Byte), Canonical s → Canonical (writeByte a v s)) ∧
  ∀ (bytes : List Byte) (n : Nat) (s t : State), Canonical s → loadProgram bytes n s = .next t → Canonical t

/-- R42: a read returns the byte last written there. That any address may be written (R44) is the spec's decision D21. -/
def Obligations.MemoryReturnsTheLastWrite : Prop :=
  ∀ (s : State) (a : Word) (v : Byte),
    (∀ c : Word, c ≠ a → memRead (memWrite a v s) c = memRead s c) ∧
    (Canonical s → memRead (memWrite a v s) a = v) ∧
    ({ memWrite a v s with mem := s.mem } = s)

/-- R156. -/
def Obligations.HostReadsAndWritesBytes : Prop :=
  ∀ (s : State) (a : Word) (v : Byte),
    readByte a s = memRead s a ∧ writeByte a v s = memWrite a v s ∧
    (Canonical s → readByte a (writeByte a v s) = v) ∧
    (∀ c : Word, c ≠ a → readByte c (writeByte a v s) = readByte c s) ∧
    { writeByte a v s with mem := s.mem } = s

/-- R152. The refusal is the spec's decision D16, log 23. -/
def Obligations.LoadProgramCopiesTheBlocks : Prop :=
  ∀ (s : State) (bytes : List Byte), Canonical s →
    (bytes.length = 16384 → ∃ t, loadProgram bytes 1 s = .next t ∧ { t with mem := s.mem } = s ∧
      (∀ k < 16384, memRead t (BitVec.ofNat 16 (0x8000 + k)) = bytes.getD k 0 ∧
        memRead t (BitVec.ofNat 16 (0xC000 + k)) = bytes.getD k 0) ∧
      ∀ a : Word, a.toNat < 0x8000 → memRead t a = memRead s a) ∧
    (bytes.length = 32768 → ∃ t, loadProgram bytes 2 s = .next t ∧ { t with mem := s.mem } = s ∧
      (∀ k < 16384, memRead t (BitVec.ofNat 16 (0x8000 + k)) = bytes.getD k 0 ∧
        memRead t (BitVec.ofNat 16 (0xC000 + k)) = bytes.getD (16384 + k) 0) ∧
      ∀ a : Word, a.toNat < 0x8000 → memRead t a = memRead s a) ∧
    ∀ n : Nat, ¬ (n = 1 ∧ bytes.length = 16384) → ¬ (n = 2 ∧ bytes.length = 32768) →
      loadProgram bytes n s = .refused .loadProgramArguments

/-- R24, R25, R157. The places of bits 6, 4, 3, 2 and 1 are the spec's general knowledge (log 16); bit 5 is a free value
(log 4). -/
def Obligations.StatusByteRoundTrips : Prop :=
  (∀ s : State,
    (getStatusByte s).getLsbD 7 = s.flagN ∧ (getStatusByte s).getLsbD 6 = s.flagV ∧
    (getStatusByte s).getLsbD 5 = Config.statusBit5 ∧ (getStatusByte s).getLsbD 4 = s.flagB ∧
    (getStatusByte s).getLsbD 3 = s.flagD ∧ (getStatusByte s).getLsbD 2 = s.flagI ∧
    (getStatusByte s).getLsbD 1 = s.flagZ ∧ (getStatusByte s).getLsbD 0 = s.flagC) ∧
  (∀ (v : Byte) (s : State), setStatusByte v s = { s with
    flagN := v.getLsbD 7, flagV := v.getLsbD 6, flagB := v.getLsbD 4, flagD := v.getLsbD 3,
    flagI := v.getLsbD 2, flagZ := v.getLsbD 1, flagC := v.getLsbD 0 }) ∧
  ∀ s : State, setStatusByte (getStatusByte s) s = s

/-- No bit of an encoding is dropped (R51-R53, R57, R58). The opcode bytes are the spec's own, from general knowledge (log
15). -/
def Obligations.DecodeOfEncodeIsIdentity : Prop :=
  ∀ (i : Instr) (rest : List Byte), i.wellFormed = true →
    decodeBytes (encode i ++ rest) = .ok (i, rest)

/-- The other direction (R52, R59, R61). The opcode bytes are the spec's own, from general knowledge (log 15). -/
def Obligations.EncodeOfDecodeIsIdentity : Prop :=
  ∀ (bs : List Byte) (i : Instr) (rest : List Byte), decodeBytes bs = .ok (i, rest) →
    i.wellFormed = true ∧ encode i ++ rest = bs

/-- Words from R57, R58 and the vectors of 95_test_vectors.md. The opcode bytes are the spec's own, from general knowledge
(log 15). -/
def Obligations.SpecWordsDecode : Prop :=
  decodeBytes [0xA9, 0x05] = .ok (.ldaImm 0x05, []) ∧ decodeBytes [0x8D, 0x00, 0x02] = .ok (.staAbs 0x00 0x02, []) ∧
  decodeBytes [0xC9, 0x01] = .ok (.cmpImm 0x01, []) ∧ decodeBytes [0xFE, 0xFF, 0x12] = .ok (.incAbsx 0xFF 0x12, []) ∧
  decodeBytes [0xE8] = .ok (.inx, []) ∧ decodeBytes [0x49, 0x0F] = .ok (.eorImm 0x0F, []) ∧
  decodeBytes [0x4A] = .ok (.lsrAcc, []) ∧ decodeBytes [0x08] = .ok (.php, []) ∧
  decodeBytes [0x18] = .ok (.clc, []) ∧ decodeBytes [0x9A] = .ok (.txs, []) ∧
  decodeBytes [0x6C, 0x00, 0x03] = .ok (.jmpInd 0x00 0x03, []) ∧ decodeBytes [0x00] = .ok (.brk, []) ∧
  decodeBytes [0xEA] = .ok (.nop, []) ∧ decodeBytes [0x69, 0x03] = .ok (.adcImm 0x03, []) ∧
  decodeBytes [0xB1, 0x66] = .ok (.ldaIndy 0x66, []) ∧ decodeBytes [0x20] = .ok (.jsr, []) ∧
  decodeBytes [0x02] = .ok (.undocumented 0x02, [])

/-- R55, R57, R58, R59. The opcode bytes are the spec's own, from general knowledge (log 15). -/
def Obligations.AbsentEntriesHaveLengthZero : Prop :=
  (∀ op b1 b2 : Byte,
    ((tableEntry op).length = 0 ↔ (decode op b1 b2).absentOpcode = some op) ∧
    ((tableEntry op).length = 0 ∨ (decode op b1 b2).absentOpcode = none) ∧ (tableEntry op).length ≤ 3) ∧
  (List.range 256).countP (fun n => decide ((tableEntry (BitVec.ofNat 8 n)).length ≠ 0)) = 115

/-- R62: Fetch latches `ir` and increments `pc`, then Decode, Resolve and Execute. A step before `initialize()` is
`InitializePrecedesEveryStep`. -/
def Obligations.StepRunsTheDecodedInstruction : Prop :=
  ∀ (s : State) (i : Instr) (rest : List Byte), s.initialized = true →
    decodeBytes [memRead s s.pc, memRead s (s.pc + 1), memRead s (s.pc + 2)] = .ok (i, rest) →
    step s = exec i { s with ir := memRead s s.pc, pc := s.pc + 1 }

/-- R137: the core raises no fault; an unknown opcode is non-fatal (R135). The premise is the host's duty (R151), an invariant by
`StepKeepsTheTableBuilt`. -/
def Obligations.EveryStepCompletes : Prop :=
  ∀ s : State, s.initialized = true → ∃ t : State, step s = .next t

/-- R21 and E2; JMP is the only control transfer (R129). -/
def Obligations.StepAdvancesPcByLength : Prop :=
  ∀ s t : State, step s = .next t →
    (isJump (fetchInstr s) = false → t.pc = s.pc + BitVec.ofNat 16 (encode (fetchInstr s)).length) ∧
    (isJump (fetchInstr s) = true → t.pc = word16 t.th t.tl)

/-- R134 (C2), R136, R154. That the report is recorded and not fatal is the spec's decision D12, log 10. -/
def Obligations.UnknownOpcodeChangesIrPcAndRecordOnly : Prop :=
  ∀ s : State, s.initialized = true → (tableEntry (memRead s s.pc)).length = 0 →
    hostStep s = .next (.unknownOpcode (memRead s s.pc),
      { s with
        ir := memRead s s.pc, pc := s.pc + 1,
        faultRecord := s.faultRecord ++ [(s.pc, memRead s s.pc)] })

/-- R136: only an unknown-opcode outcome appends; R27: Fetch writes `ir`. -/
def Obligations.RecordGrowsOnlyByUnknownOpcodes : Prop :=
  ∀ s : State, s.initialized = true → (tableEntry (memRead s s.pc)).length ≠ 0 →
    ∃ t : State, hostStep s = .next (.ok, t) ∧ t.faultRecord = s.faultRecord ∧ t.ir = memRead s s.pc

/-- R155: the step that ends a run "is a BRK, or a PLP that pulls bit 4 = 1". That bit 4 is B's place is the spec's general
knowledge (G4; log 16: PRESUMED, unsafe). -/
def Obligations.OnlyBrkOrPlpSetsBreak : Prop :=
  ∀ s t : State, step s = .next t → s.flagB = false → t.flagB = true →
    fetchInstr s = .brk ∨
      (fetchInstr s = .plp ∧ (stackTop s).getLsbD 4 = true)

/-- R29 and R162: nothing relies on `tl` or `th` from one instruction to the next. -/
def Obligations.OperandPairIsNeverReadAcrossSteps : Prop :=
  ∀ (s : State) (lo hi : Byte), s.initialized = true → ∃ t u : State,
    step s = .next t ∧ step { s with tl := lo, th := hi } = .next u ∧
    { u with tl := t.tl, th := t.th } = t ∧ ((fetchInstr s).operands ≠ [] → u = t)

/-- R138: I is stored, packed and pulled, and affects nothing. No interrupt exists (D17, log 19). -/
def Obligations.InterruptDisableAffectsNothingElse : Prop :=
  ∀ (s : State) (i : Bool), s.initialized = true → fetchInstr s ≠ .php → ∃ t u : State,
    step s = .next t ∧ step { s with flagI := i } = .next u ∧ { u with flagI := t.flagI } = t

/-- R63: an executor writes only what its rule names; R36 lists who writes memory. -/
def Obligations.MemoryFrame : Prop :=
  ∀ (i : Instr) (s t : State), exec i s = .next t →
    (∀ a : Word, storeAddr i s = some a → ∀ c : Word, c ≠ a → memRead t c = memRead s c) ∧
    (storeAddr i s = none → ∀ c : Word, memRead t c = memRead s c)

/-- R90-R92, R97, R98, R106, R109, R110 with R46. PHP's byte holds the free bit 5 (log 4); the stack page is the spec's
decision D1 (log 1). -/
def Obligations.StoredByteReadsBack : Prop :=
  ∀ (i : Instr) (s t : State) (a : Word), Canonical s → storeAddr i s = some a → exec i s = .next t →
    memRead t a = storedByte i s a

/-- The "written by" columns of R19 and R22, and R28, R63. That LSR A leaves `tl` and `th` is
the spec's decision D14 between two readings (R73, C8; log 21: DESIGN CHOICE, safe only while claims do not observe the pair).
The mark of `initialize()` is no instruction's to write (R56; log 12). The draw counter is the model's own (log 7). -/
def Obligations.RegisterFrame : Prop :=
  ∀ (i : Instr) (s t : State), exec i s = .next t →
    t.ir = s.ir ∧ t.initialized = s.initialized ∧ (writesAcc i = false → t.acc = s.acc) ∧
    (writesX i = false → t.x = s.x) ∧ (writesY i = false → t.y = s.y) ∧ (writesSp i = false → t.sp = s.sp) ∧
    (i.operands = [] → t.tl = s.tl ∧ t.th = s.th) ∧
    (i.absentOpcode = none → t.faultRecord = s.faultRecord) ∧ (isAdc i = false → t.draws = s.draws)

/-- The "written by" column of R23; no implicit clearing (R31). -/
def Obligations.FlagFrame : Prop :=
  ∀ (i : Instr) (s t : State), exec i s = .next t →
    (writesC i = false → t.flagC = s.flagC) ∧
    (writesZN i = false → t.flagZ = s.flagZ ∧ t.flagN = s.flagN) ∧
    (writesI i = false → t.flagI = s.flagI) ∧ (writesD i = false → t.flagD = s.flagD) ∧
    (writesB i = false → t.flagB = s.flagB) ∧ (writesV i = false → t.flagV = s.flagV)

/-- R50: "the next fetch or operand read of a byte sees every earlier store to it". `withFetchWord` is the model's own
(log 11). -/
def Obligations.PlacedInstructionIsFetchedNext : Prop :=
  ∀ (s : State) (nbits w : Nat), Canonical s →
    decodeTableWord nbits w = some (fetchInstr (s.withFetchWord nbits w)) ∧
    (s.withFetchWord nbits w).pc = s.pc ∧ (s.withFetchWord nbits w).initialized = true

/-- R155, R161: while B = 0, `run()` does `step()` and goes on from its result. B tested before each step is the spec's decision
D11; the bound is the model's (log 24); the premise of three clauses is the host's duty (R151, log 12). -/
def Obligations.RunStopsOnlyAtBreak : Prop :=
  (∀ (k : Nat) (s : State), s.initialized = true →
    (∃ t : State, hostRun k s = .next (.returned t) ∧ t.flagB = true) ∨
    ∃ t : State, hostRun k s = .next (.running t) ∧ t.flagB = false) ∧
  (∀ (k j : Nat) (s t : State), hostRun k s = .next (.returned t) → hostRun (k + j) s = .next (.returned t)) ∧
  (∀ (k : Nat) (s : State), s.initialized = true → s.flagB = true → hostRun k s = .next (.returned s)) ∧
  (∀ s : State, s.initialized = true → s.flagB = false → hostRun 0 s = .next (.running s)) ∧
  ∀ (k : Nat) (s t : State), s.flagB = false → step s = .next t → hostRun (k + 1) s = hostRun k t

/-- R136: "a record of unknown-opcode outcomes that is never cleared" (D12, log 10), over runs. `StepNeverClearsTheRecord` says
it of every step. -/
def Obligations.RunNeverClearsTheRecord : Prop :=
  ∀ (k : Nat) (s t : State),
    hostRun k s = .next (.returned t) ∨ hostRun k s = .next (.running t) →
    s.faultRecord <+: t.faultRecord

/-- R74, R75, R76. -/
def Obligations.ImmediateAndZeroPageResolversWriteThePair : Prop :=
  ∀ (s : State) (b : Byte),
    resolveImm b s = { s with pc := s.pc + 1, tl := b, th := 0 } ∧
    resolveZp b s = { s with pc := s.pc + 1, tl := b, th := 0 } ∧
    effAddr (resolveZp b s) = zext16 b ∧ (effAddr (resolveZp b s)).toNat < 0x100 ∧
    resolveZpx b s = { s with pc := s.pc + 1, tl := b + s.x, th := 0 } ∧
    effAddr (resolveZpx b s) = zext16 (b + s.x)

/-- R77. -/
def Obligations.ZeroPageYResolverWritesThePair : Prop :=
  ∀ (s : State) (b : Byte),
    resolveZpy b s = { s with pc := s.pc + 1, tl := b + s.y, th := 0 } ∧
    effAddr (resolveZpy b s) = zext16 (b + s.y)

/-- R78, R79, R80. -/
def Obligations.AbsoluteResolversWriteThePair : Prop :=
  ∀ (s : State) (lo hi : Byte),
    resolveAbs lo hi s = { s with pc := s.pc + 2, tl := lo, th := hi } ∧
    effAddr (resolveAbs lo hi s) = word16 hi lo ∧
    resolveAbsx lo hi s = { s with
      pc := s.pc + 2, tl := lo8 (word16 hi lo + zext16 s.x), th := hi8 (word16 hi lo + zext16 s.x) } ∧
    effAddr (resolveAbsx lo hi s) = word16 hi lo + zext16 s.x ∧
    resolveAbsy lo hi s = { s with
      pc := s.pc + 2, tl := lo8 (word16 hi lo + zext16 s.y), th := hi8 (word16 hi lo + zext16 s.y) } ∧
    effAddr (resolveAbsy lo hi s) = word16 hi lo + zext16 s.y

/-- R81 with JMP_IND_PAGE_WRAP false (D7, log 2); R82-R84 with ZP_PTR_WRAP true (D8, log 3): both the spec's own
decisions. -/
def Obligations.IndirectResolversDereferenceThePointer : Prop :=
  ∀ (s : State) (b lo hi : Byte),
    resolveInd lo hi s = { s with
      pc := s.pc + 2, tl := memRead s (word16 hi lo), th := memRead s (word16 hi lo + 1) } ∧
    resolveIndx b s = { s with
      pc := s.pc + 1, tl := memRead s (zext16 (b + s.x)), th := memRead s (zext16 (b + s.x + 1)) } ∧
    ∃ a : Word, a = word16 (memRead s (zext16 (b + 1))) (memRead s (zext16 b)) + zext16 s.y ∧
      resolveIndy b s = { s with pc := s.pc + 1, tl := lo8 a, th := hi8 a }

/-- R70. -/
def Obligations.ResolversConsumeTheirOperandBytes : Prop :=
  ∀ (s : State) (b lo hi : Byte),
    (resolveImm b s).pc = s.pc + 1 ∧ (resolveZp b s).pc = s.pc + 1 ∧ (resolveZpx b s).pc = s.pc + 1 ∧
    (resolveZpy b s).pc = s.pc + 1 ∧ (resolveIndx b s).pc = s.pc + 1 ∧ (resolveIndy b s).pc = s.pc + 1 ∧
    (resolveAbs lo hi s).pc = s.pc + 2 ∧ (resolveAbsx lo hi s).pc = s.pc + 2 ∧
    (resolveAbsy lo hi s).pc = s.pc + 2 ∧ (resolveInd lo hi s).pc = s.pc + 2

/-- R17. -/
def Obligations.ZeroAndNegativeFollowTheResult : Prop :=
  ∀ (v : Byte) (s : State), setZN v s = { s with flagZ := decide (v = 0), flagN := v.getLsbD 7 }

/-- LDA: acc takes the operand, Z and N follow it, in all eight forms (R87, R85). -/
def Obligations.LdaLoadsTheAccumulator : Prop :=
  ∀ (s : State) (b lo hi : Byte),
    exec (.ldaImm b) s = accTakes b (resolveImm b s) ∧
    exec (.ldaZp b) s = accTakes (byteAtEA (resolveZp b s)) (resolveZp b s) ∧
    exec (.ldaZpx b) s = accTakes (byteAtEA (resolveZpx b s)) (resolveZpx b s) ∧
    exec (.ldaAbs lo hi) s = accTakes (byteAtEA (resolveAbs lo hi s)) (resolveAbs lo hi s) ∧
    exec (.ldaAbsx lo hi) s = accTakes (byteAtEA (resolveAbsx lo hi s)) (resolveAbsx lo hi s) ∧
    exec (.ldaAbsy lo hi) s = accTakes (byteAtEA (resolveAbsy lo hi s)) (resolveAbsy lo hi s) ∧
    exec (.ldaIndx b) s = accTakes (byteAtEA (resolveIndx b s)) (resolveIndx b s) ∧
    exec (.ldaIndy b) s = accTakes (byteAtEA (resolveIndy b s)) (resolveIndy b s)

/-- LDX and LDY: the index register takes the operand, Z and N follow it, in every form (R88, R89, R85). -/
def Obligations.LdxAndLdyLoadTheIndexRegisters : Prop :=
  ∀ (s : State) (b lo hi : Byte),
    exec (.ldxImm b) s = xTakes b (resolveImm b s) ∧
    exec (.ldxZp b) s = xTakes (byteAtEA (resolveZp b s)) (resolveZp b s) ∧
    exec (.ldxZpy b) s = xTakes (byteAtEA (resolveZpy b s)) (resolveZpy b s) ∧
    exec (.ldxAbs lo hi) s = xTakes (byteAtEA (resolveAbs lo hi s)) (resolveAbs lo hi s) ∧
    exec (.ldxAbsy lo hi) s = xTakes (byteAtEA (resolveAbsy lo hi s)) (resolveAbsy lo hi s) ∧
    exec (.ldyImm b) s = yTakes b (resolveImm b s) ∧
    exec (.ldyZp b) s = yTakes (byteAtEA (resolveZp b s)) (resolveZp b s) ∧
    exec (.ldyZpx b) s = yTakes (byteAtEA (resolveZpx b s)) (resolveZpx b s) ∧
    exec (.ldyAbs lo hi) s = yTakes (byteAtEA (resolveAbs lo hi s)) (resolveAbs lo hi s) ∧
    exec (.ldyAbsx lo hi) s = yTakes (byteAtEA (resolveAbsx lo hi s)) (resolveAbsx lo hi s)

/-- R90. Every address is writable (D21, log 22). -/
def Obligations.StaStoresTheAccumulator : Prop :=
  ∀ (s : State) (b lo hi : Byte),
    exec (.staZp b) s = eaTakes s.acc (resolveZp b s) ∧
    exec (.staZpx b) s = eaTakes s.acc (resolveZpx b s) ∧
    exec (.staAbs lo hi) s = eaTakes s.acc (resolveAbs lo hi s) ∧
    exec (.staAbsx lo hi) s = eaTakes s.acc (resolveAbsx lo hi s) ∧
    exec (.staAbsy lo hi) s = eaTakes s.acc (resolveAbsy lo hi s) ∧
    exec (.staIndx b) s = eaTakes s.acc (resolveIndx b s) ∧
    exec (.staIndy b) s = eaTakes s.acc (resolveIndy b s)

/-- R91, R92. -/
def Obligations.StxAndStyStoreTheIndexRegisters : Prop :=
  ∀ (s : State) (b lo hi : Byte),
    exec (.stxZp b) s = eaTakes s.x (resolveZp b s) ∧
    exec (.stxZpy b) s = eaTakes s.x (resolveZpy b s) ∧
    exec (.stxAbs lo hi) s = eaTakes s.x (resolveAbs lo hi s) ∧
    exec (.styZp b) s = eaTakes s.y (resolveZp b s) ∧
    exec (.styZpx b) s = eaTakes s.y (resolveZpx b s) ∧
    exec (.styAbs lo hi) s = eaTakes s.y (resolveAbs lo hi s)

/-- R93 (C10): the integer difference modulo 256 is 128 or more exactly when its bit 7 is set. -/
def Obligations.CompareSetsCarryZeroNegative : Prop :=
  ∀ (r v : Byte) (s : State),
    compareFlags r v s = { s with
      flagC := decide (v.toNat ≤ r.toNat), flagZ := decide (r = v), flagN := (r - v).getLsbD 7 } ∧
    (r - v).getLsbD 7 = decide (128 ≤ ((r.toNat : Int) - (v.toNat : Int)) % 256)

/-- CMP: C, Z and N compare acc with the operand, in all eight forms (R94, R93, R85). -/
def Obligations.CmpComparesTheAccumulator : Prop :=
  ∀ (s : State) (b lo hi : Byte),
    exec (.cmpImm b) s = compared s.acc b (resolveImm b s) ∧
    exec (.cmpZp b) s = compared s.acc (byteAtEA (resolveZp b s)) (resolveZp b s) ∧
    exec (.cmpZpx b) s = compared s.acc (byteAtEA (resolveZpx b s)) (resolveZpx b s) ∧
    exec (.cmpAbs lo hi) s = compared s.acc (byteAtEA (resolveAbs lo hi s)) (resolveAbs lo hi s) ∧
    exec (.cmpAbsx lo hi) s = compared s.acc (byteAtEA (resolveAbsx lo hi s)) (resolveAbsx lo hi s) ∧
    exec (.cmpAbsy lo hi) s = compared s.acc (byteAtEA (resolveAbsy lo hi s)) (resolveAbsy lo hi s) ∧
    exec (.cmpIndx b) s = compared s.acc (byteAtEA (resolveIndx b s)) (resolveIndx b s) ∧
    exec (.cmpIndy b) s = compared s.acc (byteAtEA (resolveIndy b s)) (resolveIndy b s)

/-- CPX and CPY: C, Z and N compare the index register with the operand, in every form (R95, R96, R93, R85). -/
def Obligations.CpxAndCpyCompareTheIndexRegisters : Prop :=
  ∀ (s : State) (b lo hi : Byte),
    exec (.cpxImm b) s = compared s.x b (resolveImm b s) ∧
    exec (.cpxZp b) s = compared s.x (byteAtEA (resolveZp b s)) (resolveZp b s) ∧
    exec (.cpxAbs lo hi) s = compared s.x (byteAtEA (resolveAbs lo hi s)) (resolveAbs lo hi s) ∧
    exec (.cpyImm b) s = compared s.y b (resolveImm b s) ∧
    exec (.cpyZp b) s = compared s.y (byteAtEA (resolveZp b s)) (resolveZp b s) ∧
    exec (.cpyAbs lo hi) s = compared s.y (byteAtEA (resolveAbs lo hi s)) (resolveAbs lo hi s)

/-- R97, R98. -/
def Obligations.IncAndDecStepTheMemoryByte : Prop :=
  ∀ (s : State) (b lo hi : Byte),
    exec (.incZp b) s = eaTakesZN (byteAtEA (resolveZp b s) + 1) (resolveZp b s) ∧
    exec (.incZpx b) s = eaTakesZN (byteAtEA (resolveZpx b s) + 1) (resolveZpx b s) ∧
    exec (.incAbs lo hi) s = eaTakesZN (byteAtEA (resolveAbs lo hi s) + 1) (resolveAbs lo hi s) ∧
    exec (.incAbsx lo hi) s = eaTakesZN (byteAtEA (resolveAbsx lo hi s) + 1) (resolveAbsx lo hi s) ∧
    exec (.decZp b) s = eaTakesZN (byteAtEA (resolveZp b s) - 1) (resolveZp b s) ∧
    exec (.decZpx b) s = eaTakesZN (byteAtEA (resolveZpx b s) - 1) (resolveZpx b s) ∧
    exec (.decAbs lo hi) s = eaTakesZN (byteAtEA (resolveAbs lo hi s) - 1) (resolveAbs lo hi s) ∧
    exec (.decAbsx lo hi) s = eaTakesZN (byteAtEA (resolveAbsx lo hi s) - 1) (resolveAbsx lo hi s)

/-- R99-R102. -/
def Obligations.IndexRegistersStepByOne : Prop :=
  ∀ s : State,
    exec .inx s = xTakes (s.x + 1) s ∧ exec .iny s = yTakes (s.y + 1) s ∧
    exec .dex s = xTakes (s.x - 1) s ∧ exec .dey s = yTakes (s.y - 1) s

/-- R103, R104, R105. -/
def Obligations.LogicCombinesIntoTheAccumulator : Prop :=
  ∀ (s : State) (b lo hi : Byte),
    exec (.andImm b) s = accTakes (s.acc &&& b) (resolveImm b s) ∧
    exec (.andZp b) s = accTakes (s.acc &&& byteAtEA (resolveZp b s)) (resolveZp b s) ∧
    exec (.andZpx b) s = accTakes (s.acc &&& byteAtEA (resolveZpx b s)) (resolveZpx b s) ∧
    exec (.andAbs lo hi) s = accTakes (s.acc &&& byteAtEA (resolveAbs lo hi s)) (resolveAbs lo hi s) ∧
    exec (.andAbsx lo hi) s = accTakes (s.acc &&& byteAtEA (resolveAbsx lo hi s)) (resolveAbsx lo hi s) ∧
    exec (.andAbsy lo hi) s = accTakes (s.acc &&& byteAtEA (resolveAbsy lo hi s)) (resolveAbsy lo hi s) ∧
    exec (.andIndx b) s = accTakes (s.acc &&& byteAtEA (resolveIndx b s)) (resolveIndx b s) ∧
    exec (.andIndy b) s = accTakes (s.acc &&& byteAtEA (resolveIndy b s)) (resolveIndy b s) ∧
    exec (.oraImm b) s = accTakes (s.acc ||| b) (resolveImm b s) ∧
    exec (.oraZp b) s = accTakes (s.acc ||| byteAtEA (resolveZp b s)) (resolveZp b s) ∧
    exec (.oraZpx b) s = accTakes (s.acc ||| byteAtEA (resolveZpx b s)) (resolveZpx b s) ∧
    exec (.oraAbs lo hi) s = accTakes (s.acc ||| byteAtEA (resolveAbs lo hi s)) (resolveAbs lo hi s) ∧
    exec (.oraAbsx lo hi) s = accTakes (s.acc ||| byteAtEA (resolveAbsx lo hi s)) (resolveAbsx lo hi s) ∧
    exec (.oraAbsy lo hi) s = accTakes (s.acc ||| byteAtEA (resolveAbsy lo hi s)) (resolveAbsy lo hi s) ∧
    exec (.oraIndx b) s = accTakes (s.acc ||| byteAtEA (resolveIndx b s)) (resolveIndx b s) ∧
    exec (.oraIndy b) s = accTakes (s.acc ||| byteAtEA (resolveIndy b s)) (resolveIndy b s) ∧
    exec (.eorImm b) s = accTakes (s.acc ^^^ b) (resolveImm b s) ∧
    exec (.eorZp b) s = accTakes (s.acc ^^^ byteAtEA (resolveZp b s)) (resolveZp b s) ∧
    exec (.eorZpx b) s = accTakes (s.acc ^^^ byteAtEA (resolveZpx b s)) (resolveZpx b s) ∧
    exec (.eorAbs lo hi) s = accTakes (s.acc ^^^ byteAtEA (resolveAbs lo hi s)) (resolveAbs lo hi s) ∧
    exec (.eorAbsx lo hi) s = accTakes (s.acc ^^^ byteAtEA (resolveAbsx lo hi s)) (resolveAbsx lo hi s) ∧
    exec (.eorAbsy lo hi) s = accTakes (s.acc ^^^ byteAtEA (resolveAbsy lo hi s)) (resolveAbsy lo hi s) ∧
    exec (.eorIndx b) s = accTakes (s.acc ^^^ byteAtEA (resolveIndx b s)) (resolveIndx b s) ∧
    exec (.eorIndy b) s = accTakes (s.acc ^^^ byteAtEA (resolveIndy b s)) (resolveIndy b s)

/-- R106. N is always 0, which the spec derives from the rule. That LSR A leaves `tl` and `th` as they were is the spec's decision
D14 between two readings of the document (R73, C8; log 21: DESIGN CHOICE, safe only while claims do not observe the pair). -/
def Obligations.LsrShiftsRightIntoCarry : Prop :=
  ∀ (s : State) (b lo hi : Byte),
    exec .lsrAcc s = .next { s with
      acc := s.acc >>> 1, flagC := s.acc.getLsbD 0, flagZ := decide (s.acc >>> 1 = 0), flagN := false } ∧
    exec (.lsrZp b) s = eaShifts (byteAtEA (resolveZp b s)) (resolveZp b s) ∧
    exec (.lsrZpx b) s = eaShifts (byteAtEA (resolveZpx b s)) (resolveZpx b s) ∧
    exec (.lsrAbs lo hi) s = eaShifts (byteAtEA (resolveAbs lo hi s)) (resolveAbs lo hi s) ∧
    exec (.lsrAbsx lo hi) s = eaShifts (byteAtEA (resolveAbsx lo hi s)) (resolveAbsx lo hi s)

/-- R107. -/
def Obligations.PushWritesThenDecrements : Prop :=
  ∀ (v : Byte) (s : State), push v s = { s with
    mem := Memory.write s.mem (Config.stackBase + zext16 s.sp).toNat v, sp := s.sp - 1 }

/-- R108, E5. -/
def Obligations.PullIncrementsThenReadsAndInvertsPush : Prop :=
  (∀ s : State, pull s = { s with sp := s.sp + 1 } ∧
    pulled s = memRead s (Config.stackBase + zext16 (s.sp + 1))) ∧
  ∀ (v : Byte) (s : State), Canonical s →
    pulled (push v s) = v ∧ (pull (push v s)).sp = s.sp

/-- R109-R112. What the status byte holds is `StatusByteRoundTrips`. That PLP's bits 6, 4, 3, 2 and 1 are V, B, D, I and Z is the
spec's general knowledge (G4; log 16: PRESUMED, unsafe). The stack page is the spec's decision D1 (log 1). -/
def Obligations.StackInstructionsMoveBytes : Prop :=
  ∀ s : State,
    exec .pha s = .next { s with
      mem := Memory.write s.mem (Config.stackBase + zext16 s.sp).toNat s.acc, sp := s.sp - 1 } ∧
    exec .php s = .next { s with
      mem := Memory.write s.mem (Config.stackBase + zext16 s.sp).toNat (getStatusByte s), sp := s.sp - 1 } ∧
    exec .pla s = .next { s with
      sp := s.sp + 1, acc := stackTop s, flagZ := decide (stackTop s = 0), flagN := (stackTop s).getLsbD 7 } ∧
    exec .plp s = .next { s with
      sp := s.sp + 1, flagN := (stackTop s).getLsbD 7, flagV := (stackTop s).getLsbD 6,
      flagB := (stackTop s).getLsbD 4, flagD := (stackTop s).getLsbD 3, flagI := (stackTop s).getLsbD 2,
      flagZ := (stackTop s).getLsbD 1, flagC := (stackTop s).getLsbD 0 }

/-- R113-R119. -/
def Obligations.FlagInstructionsWriteOneFlag : Prop :=
  ∀ s : State,
    exec .clc s = .next { s with flagC := false } ∧ exec .sec s = .next { s with flagC := true } ∧
    exec .cld s = .next { s with flagD := false } ∧ exec .sed s = .next { s with flagD := true } ∧
    exec .cli s = .next { s with flagI := false } ∧ exec .sei s = .next { s with flagI := true } ∧
    exec .clv s = .next { s with flagV := false }

/-- R120-R125. -/
def Obligations.TransfersCopyARegister : Prop :=
  ∀ s : State,
    exec .tax s = xTakes s.acc s ∧ exec .txa s = accTakes s.x s ∧ exec .tay s = yTakes s.acc s ∧
    exec .tya s = accTakes s.y s ∧ exec .tsx s = xTakes s.sp s ∧ exec .txs s = .next { s with sp := s.x }

/-- R126; the indirect form with JMP_IND_PAGE_WRAP false is the spec's decision D7 (log 2). -/
def Obligations.JmpSetsThePc : Prop :=
  ∀ (s : State) (lo hi : Byte),
    exec (.jmpAbs lo hi) s = .next { s with pc := word16 hi lo, tl := lo, th := hi } ∧
    exec (.jmpInd lo hi) s = .next { s with
      pc := word16 (memRead s (word16 hi lo + 1)) (memRead s (word16 hi lo)),
      tl := memRead s (word16 hi lo), th := memRead s (word16 hi lo + 1) }

/-- R127, R128, R141. BRK's length 1 is the spec's decision D13 (log 18). -/
def Obligations.BrkSetsOnlyBreakAndNopNothing : Prop :=
  ∀ s : State, exec .brk s = .next { s with flagB := true } ∧ exec .nop s = .next s

/-- R131. V is a free value (log 5); the carry-out rule is the spec's general knowledge (G5, log 17). -/
def Obligations.AdcBinaryAddsWithCarry : Prop :=
  ∀ (s : State) (b lo hi : Byte), s.flagD = false →
    exec (.adcImm b) s = adcSums b (resolveImm b s) ∧
    exec (.adcZp b) s = adcSums (byteAtEA (resolveZp b s)) (resolveZp b s) ∧
    exec (.adcZpx b) s = adcSums (byteAtEA (resolveZpx b s)) (resolveZpx b s) ∧
    exec (.adcAbs lo hi) s = adcSums (byteAtEA (resolveAbs lo hi s)) (resolveAbs lo hi s) ∧
    exec (.adcAbsx lo hi) s = adcSums (byteAtEA (resolveAbsx lo hi s)) (resolveAbsx lo hi s) ∧
    exec (.adcAbsy lo hi) s = adcSums (byteAtEA (resolveAbsy lo hi s)) (resolveAbsy lo hi s) ∧
    exec (.adcIndx b) s = adcSums (byteAtEA (resolveIndx b s)) (resolveIndx b s) ∧
    exec (.adcIndy b) s = adcSums (byteAtEA (resolveIndy b s)) (resolveIndy b s)

/-- R132: all five results are free values (log 6). -/
def Obligations.AdcDecimalIsDrawn : Prop :=
  ∀ (s : State) (b lo hi : Byte), s.flagD = true →
    exec (.adcImm b) s = adcDrawn (resolveImm b s) ∧
    exec (.adcZp b) s = adcDrawn (resolveZp b s) ∧
    exec (.adcZpx b) s = adcDrawn (resolveZpx b s) ∧
    exec (.adcAbs lo hi) s = adcDrawn (resolveAbs lo hi s) ∧
    exec (.adcAbsx lo hi) s = adcDrawn (resolveAbsx lo hi s) ∧
    exec (.adcAbsy lo hi) s = adcDrawn (resolveAbsy lo hi s) ∧
    exec (.adcIndx b) s = adcDrawn (resolveIndx b s) ∧
    exec (.adcIndy b) s = adcDrawn (resolveIndy b s)

/-- R58, R133, R134, R136. Which bytes are absent is the spec's decision D2-D4 (logs 15, 28). That the outcome is a next state
with the report appended to the record is the spec's decision D12 (log 10: DESIGN CHOICE, unsafe for a claim about the state
after it); that the report's address is `pc - 1` of the state after Fetch is an inference (log 25: DEDUCED). -/
def Obligations.AbsentOpcodesOnlyRecord : Prop :=
  ∀ s : State,
    exec .bpl s = recorded 0x10 s ∧ exec .bmi s = recorded 0x30 s ∧ exec .bvc s = recorded 0x50 s ∧
    exec .bvs s = recorded 0x70 s ∧ exec .bcc s = recorded 0x90 s ∧ exec .bcs s = recorded 0xB0 s ∧
    exec .bne s = recorded 0xD0 s ∧ exec .beq s = recorded 0xF0 s ∧ exec .jsr s = recorded 0x20 s ∧
    exec .rts s = recorded 0x60 s ∧ exec .rti s = recorded 0x40 s ∧ exec .rolZp s = recorded 0x26 s ∧
    exec .rolAcc s = recorded 0x2A s ∧ exec .rolAbs s = recorded 0x2E s ∧ exec .rolZpx s = recorded 0x36 s ∧
    exec .rolAbsx s = recorded 0x3E s ∧ exec .rorZp s = recorded 0x66 s ∧ exec .rorAcc s = recorded 0x6A s ∧
    exec .rorAbs s = recorded 0x6E s ∧ exec .rorZpx s = recorded 0x76 s ∧ exec .rorAbsx s = recorded 0x7E s ∧
    exec .sbcIndx s = recorded 0xE1 s ∧ exec .sbcZp s = recorded 0xE5 s ∧ exec .sbcImm s = recorded 0xE9 s ∧
    exec .sbcAbs s = recorded 0xED s ∧ exec .sbcIndy s = recorded 0xF1 s ∧ exec .sbcZpx s = recorded 0xF5 s ∧
    exec .sbcAbsy s = recorded 0xF9 s ∧ exec .sbcAbsx s = recorded 0xFD s ∧ exec .aslZp s = recorded 0x06 s ∧
    exec .aslAcc s = recorded 0x0A s ∧ exec .aslAbs s = recorded 0x0E s ∧ exec .aslZpx s = recorded 0x16 s ∧
    exec .aslAbsx s = recorded 0x1E s ∧ exec .bitZp s = recorded 0x24 s ∧ exec .bitAbs s = recorded 0x2C s ∧
    ∀ op : Byte, exec (.undocumented op) s = recorded op s

/-- R151: `initialize()` builds the table, is idempotent, and changes no register and no memory. That `step()` and `run()`
before it are refused, whatever B is, is the spec's decision D25 (U16; log 12). -/
def Obligations.InitializePrecedesEveryStep : Prop :=
  (∀ s : State, hostInit s = { s with initialized := true }) ∧
  (∀ s : State, hostInit (hostInit s) = hostInit s) ∧
  ∀ s : State, s.initialized = false →
    step s = .refused .notInitialized ∧ hostStep s = .refused .notInitialized ∧
    ∀ k : Nat, hostRun k s = .refused .notInitialized

/-- R56: the table "is built once (process-wide, read-only thereafter)"; no instruction takes it away. So the premise of the
statements about steps is an invariant; `ResetStateHoldsTheLoggedValues` has it at reset. The mark is the model's form of D25
(log 12). -/
def Obligations.StepKeepsTheTableBuilt : Prop :=
  ∀ s t : State, step s = .next t → s.initialized = true ∧ t.initialized = true

/-- R136: "a record of unknown-opcode outcomes that is never cleared" (D12, log 10), for every step, one from B = 1 included. -/
def Obligations.StepNeverClearsTheRecord : Prop :=
  ∀ s t : State, step s = .next t → s.faultRecord <+: t.faultRecord
end

