-- ==== Sys2Proof/Laws/State.lean ====
section
/-! SUPPORT. Every field of State after every named update of it. -/

namespace Sys2Proof.Machine

@[simp] theorem memWrite_pc (a : Word) (v : Byte) (s : State) : (memWrite a v s).pc = s.pc := rfl
@[simp] theorem memWrite_sp (a : Word) (v : Byte) (s : State) : (memWrite a v s).sp = s.sp := rfl
@[simp] theorem memWrite_acc (a : Word) (v : Byte) (s : State) : (memWrite a v s).acc = s.acc := rfl
@[simp] theorem memWrite_x (a : Word) (v : Byte) (s : State) : (memWrite a v s).x = s.x := rfl
@[simp] theorem memWrite_y (a : Word) (v : Byte) (s : State) : (memWrite a v s).y = s.y := rfl
@[simp] theorem memWrite_flagC (a : Word) (v : Byte) (s : State) : (memWrite a v s).flagC = s.flagC := rfl
@[simp] theorem memWrite_flagZ (a : Word) (v : Byte) (s : State) : (memWrite a v s).flagZ = s.flagZ := rfl
@[simp] theorem memWrite_flagI (a : Word) (v : Byte) (s : State) : (memWrite a v s).flagI = s.flagI := rfl
@[simp] theorem memWrite_flagD (a : Word) (v : Byte) (s : State) : (memWrite a v s).flagD = s.flagD := rfl
@[simp] theorem memWrite_flagB (a : Word) (v : Byte) (s : State) : (memWrite a v s).flagB = s.flagB := rfl
@[simp] theorem memWrite_flagV (a : Word) (v : Byte) (s : State) : (memWrite a v s).flagV = s.flagV := rfl
@[simp] theorem memWrite_flagN (a : Word) (v : Byte) (s : State) : (memWrite a v s).flagN = s.flagN := rfl
@[simp] theorem memWrite_ir (a : Word) (v : Byte) (s : State) : (memWrite a v s).ir = s.ir := rfl
@[simp] theorem memWrite_tl (a : Word) (v : Byte) (s : State) : (memWrite a v s).tl = s.tl := rfl
@[simp] theorem memWrite_th (a : Word) (v : Byte) (s : State) : (memWrite a v s).th = s.th := rfl
@[simp] theorem memWrite_mem (a : Word) (v : Byte) (s : State) : (memWrite a v s).mem = Memory.write s.mem a.toNat v := rfl
@[simp] theorem memWrite_initialized (a : Word) (v : Byte) (s : State) : (memWrite a v s).initialized = s.initialized := rfl
@[simp] theorem memWrite_faultRecord (a : Word) (v : Byte) (s : State) : (memWrite a v s).faultRecord = s.faultRecord := rfl
@[simp] theorem memWrite_draws (a : Word) (v : Byte) (s : State) : (memWrite a v s).draws = s.draws := rfl

@[simp] theorem setZN_pc (v : Byte) (s : State) : (setZN v s).pc = s.pc := rfl
@[simp] theorem setZN_sp (v : Byte) (s : State) : (setZN v s).sp = s.sp := rfl
@[simp] theorem setZN_acc (v : Byte) (s : State) : (setZN v s).acc = s.acc := rfl
@[simp] theorem setZN_x (v : Byte) (s : State) : (setZN v s).x = s.x := rfl
@[simp] theorem setZN_y (v : Byte) (s : State) : (setZN v s).y = s.y := rfl
@[simp] theorem setZN_flagC (v : Byte) (s : State) : (setZN v s).flagC = s.flagC := rfl
@[simp] theorem setZN_flagZ (v : Byte) (s : State) : (setZN v s).flagZ = decide (v = 0) := rfl
@[simp] theorem setZN_flagI (v : Byte) (s : State) : (setZN v s).flagI = s.flagI := rfl
@[simp] theorem setZN_flagD (v : Byte) (s : State) : (setZN v s).flagD = s.flagD := rfl
@[simp] theorem setZN_flagB (v : Byte) (s : State) : (setZN v s).flagB = s.flagB := rfl
@[simp] theorem setZN_flagV (v : Byte) (s : State) : (setZN v s).flagV = s.flagV := rfl
@[simp] theorem setZN_flagN (v : Byte) (s : State) : (setZN v s).flagN = v.getLsbD 7 := rfl
@[simp] theorem setZN_ir (v : Byte) (s : State) : (setZN v s).ir = s.ir := rfl
@[simp] theorem setZN_tl (v : Byte) (s : State) : (setZN v s).tl = s.tl := rfl
@[simp] theorem setZN_th (v : Byte) (s : State) : (setZN v s).th = s.th := rfl
@[simp] theorem setZN_mem (v : Byte) (s : State) : (setZN v s).mem = s.mem := rfl
@[simp] theorem setZN_initialized (v : Byte) (s : State) : (setZN v s).initialized = s.initialized := rfl
@[simp] theorem setZN_faultRecord (v : Byte) (s : State) : (setZN v s).faultRecord = s.faultRecord := rfl
@[simp] theorem setZN_draws (v : Byte) (s : State) : (setZN v s).draws = s.draws := rfl

@[simp] theorem compareFlags_pc (r v : Byte) (s : State) : (compareFlags r v s).pc = s.pc := rfl
@[simp] theorem compareFlags_sp (r v : Byte) (s : State) : (compareFlags r v s).sp = s.sp := rfl
@[simp] theorem compareFlags_acc (r v : Byte) (s : State) : (compareFlags r v s).acc = s.acc := rfl
@[simp] theorem compareFlags_x (r v : Byte) (s : State) : (compareFlags r v s).x = s.x := rfl
@[simp] theorem compareFlags_y (r v : Byte) (s : State) : (compareFlags r v s).y = s.y := rfl
@[simp] theorem compareFlags_flagC (r v : Byte) (s : State) : (compareFlags r v s).flagC = decide (v.toNat ≤ r.toNat) := rfl
@[simp] theorem compareFlags_flagZ (r v : Byte) (s : State) : (compareFlags r v s).flagZ = decide (r = v) := rfl
@[simp] theorem compareFlags_flagI (r v : Byte) (s : State) : (compareFlags r v s).flagI = s.flagI := rfl
@[simp] theorem compareFlags_flagD (r v : Byte) (s : State) : (compareFlags r v s).flagD = s.flagD := rfl
@[simp] theorem compareFlags_flagB (r v : Byte) (s : State) : (compareFlags r v s).flagB = s.flagB := rfl
@[simp] theorem compareFlags_flagV (r v : Byte) (s : State) : (compareFlags r v s).flagV = s.flagV := rfl
@[simp] theorem compareFlags_flagN (r v : Byte) (s : State) : (compareFlags r v s).flagN = (r - v).getLsbD 7 := rfl
@[simp] theorem compareFlags_ir (r v : Byte) (s : State) : (compareFlags r v s).ir = s.ir := rfl
@[simp] theorem compareFlags_tl (r v : Byte) (s : State) : (compareFlags r v s).tl = s.tl := rfl
@[simp] theorem compareFlags_th (r v : Byte) (s : State) : (compareFlags r v s).th = s.th := rfl
@[simp] theorem compareFlags_mem (r v : Byte) (s : State) : (compareFlags r v s).mem = s.mem := rfl
@[simp] theorem compareFlags_initialized (r v : Byte) (s : State) : (compareFlags r v s).initialized = s.initialized := rfl
@[simp] theorem compareFlags_faultRecord (r v : Byte) (s : State) : (compareFlags r v s).faultRecord = s.faultRecord := rfl
@[simp] theorem compareFlags_draws (r v : Byte) (s : State) : (compareFlags r v s).draws = s.draws := rfl

@[simp] theorem unpack_pc (v : Byte) (s : State) : (unpack v s).pc = s.pc := rfl
@[simp] theorem unpack_sp (v : Byte) (s : State) : (unpack v s).sp = s.sp := rfl
@[simp] theorem unpack_acc (v : Byte) (s : State) : (unpack v s).acc = s.acc := rfl
@[simp] theorem unpack_x (v : Byte) (s : State) : (unpack v s).x = s.x := rfl
@[simp] theorem unpack_y (v : Byte) (s : State) : (unpack v s).y = s.y := rfl
@[simp] theorem unpack_flagC (v : Byte) (s : State) : (unpack v s).flagC = v.getLsbD 0 := rfl
@[simp] theorem unpack_flagZ (v : Byte) (s : State) : (unpack v s).flagZ = v.getLsbD 1 := rfl
@[simp] theorem unpack_flagI (v : Byte) (s : State) : (unpack v s).flagI = v.getLsbD 2 := rfl
@[simp] theorem unpack_flagD (v : Byte) (s : State) : (unpack v s).flagD = v.getLsbD 3 := rfl
@[simp] theorem unpack_flagB (v : Byte) (s : State) : (unpack v s).flagB = v.getLsbD 4 := rfl
@[simp] theorem unpack_flagV (v : Byte) (s : State) : (unpack v s).flagV = v.getLsbD 6 := rfl
@[simp] theorem unpack_flagN (v : Byte) (s : State) : (unpack v s).flagN = v.getLsbD 7 := rfl
@[simp] theorem unpack_ir (v : Byte) (s : State) : (unpack v s).ir = s.ir := rfl
@[simp] theorem unpack_tl (v : Byte) (s : State) : (unpack v s).tl = s.tl := rfl
@[simp] theorem unpack_th (v : Byte) (s : State) : (unpack v s).th = s.th := rfl
@[simp] theorem unpack_mem (v : Byte) (s : State) : (unpack v s).mem = s.mem := rfl
@[simp] theorem unpack_initialized (v : Byte) (s : State) : (unpack v s).initialized = s.initialized := rfl
@[simp] theorem unpack_faultRecord (v : Byte) (s : State) : (unpack v s).faultRecord = s.faultRecord := rfl
@[simp] theorem unpack_draws (v : Byte) (s : State) : (unpack v s).draws = s.draws := rfl

@[simp] theorem push_pc (v : Byte) (s : State) : (push v s).pc = s.pc := rfl
@[simp] theorem push_sp (v : Byte) (s : State) : (push v s).sp = s.sp - 1 := rfl
@[simp] theorem push_acc (v : Byte) (s : State) : (push v s).acc = s.acc := rfl
@[simp] theorem push_x (v : Byte) (s : State) : (push v s).x = s.x := rfl
@[simp] theorem push_y (v : Byte) (s : State) : (push v s).y = s.y := rfl
@[simp] theorem push_flagC (v : Byte) (s : State) : (push v s).flagC = s.flagC := rfl
@[simp] theorem push_flagZ (v : Byte) (s : State) : (push v s).flagZ = s.flagZ := rfl
@[simp] theorem push_flagI (v : Byte) (s : State) : (push v s).flagI = s.flagI := rfl
@[simp] theorem push_flagD (v : Byte) (s : State) : (push v s).flagD = s.flagD := rfl
@[simp] theorem push_flagB (v : Byte) (s : State) : (push v s).flagB = s.flagB := rfl
@[simp] theorem push_flagV (v : Byte) (s : State) : (push v s).flagV = s.flagV := rfl
@[simp] theorem push_flagN (v : Byte) (s : State) : (push v s).flagN = s.flagN := rfl
@[simp] theorem push_ir (v : Byte) (s : State) : (push v s).ir = s.ir := rfl
@[simp] theorem push_tl (v : Byte) (s : State) : (push v s).tl = s.tl := rfl
@[simp] theorem push_th (v : Byte) (s : State) : (push v s).th = s.th := rfl
@[simp] theorem push_mem (v : Byte) (s : State) : (push v s).mem = Memory.write s.mem (stackAddr s.sp).toNat v := rfl
@[simp] theorem push_initialized (v : Byte) (s : State) : (push v s).initialized = s.initialized := rfl
@[simp] theorem push_faultRecord (v : Byte) (s : State) : (push v s).faultRecord = s.faultRecord := rfl
@[simp] theorem push_draws (v : Byte) (s : State) : (push v s).draws = s.draws := rfl

@[simp] theorem pull_pc (s : State) : (pull s).pc = s.pc := rfl
@[simp] theorem pull_sp (s : State) : (pull s).sp = s.sp + 1 := rfl
@[simp] theorem pull_acc (s : State) : (pull s).acc = s.acc := rfl
@[simp] theorem pull_x (s : State) : (pull s).x = s.x := rfl
@[simp] theorem pull_y (s : State) : (pull s).y = s.y := rfl
@[simp] theorem pull_flagC (s : State) : (pull s).flagC = s.flagC := rfl
@[simp] theorem pull_flagZ (s : State) : (pull s).flagZ = s.flagZ := rfl
@[simp] theorem pull_flagI (s : State) : (pull s).flagI = s.flagI := rfl
@[simp] theorem pull_flagD (s : State) : (pull s).flagD = s.flagD := rfl
@[simp] theorem pull_flagB (s : State) : (pull s).flagB = s.flagB := rfl
@[simp] theorem pull_flagV (s : State) : (pull s).flagV = s.flagV := rfl
@[simp] theorem pull_flagN (s : State) : (pull s).flagN = s.flagN := rfl
@[simp] theorem pull_ir (s : State) : (pull s).ir = s.ir := rfl
@[simp] theorem pull_tl (s : State) : (pull s).tl = s.tl := rfl
@[simp] theorem pull_th (s : State) : (pull s).th = s.th := rfl
@[simp] theorem pull_mem (s : State) : (pull s).mem = s.mem := rfl
@[simp] theorem pull_initialized (s : State) : (pull s).initialized = s.initialized := rfl
@[simp] theorem pull_faultRecord (s : State) : (pull s).faultRecord = s.faultRecord := rfl
@[simp] theorem pull_draws (s : State) : (pull s).draws = s.draws := rfl

@[simp] theorem fetchLatch_pc (s : State) : (fetchLatch s).pc = s.pc + 1 := rfl
@[simp] theorem fetchLatch_sp (s : State) : (fetchLatch s).sp = s.sp := rfl
@[simp] theorem fetchLatch_acc (s : State) : (fetchLatch s).acc = s.acc := rfl
@[simp] theorem fetchLatch_x (s : State) : (fetchLatch s).x = s.x := rfl
@[simp] theorem fetchLatch_y (s : State) : (fetchLatch s).y = s.y := rfl
@[simp] theorem fetchLatch_flagC (s : State) : (fetchLatch s).flagC = s.flagC := rfl
@[simp] theorem fetchLatch_flagZ (s : State) : (fetchLatch s).flagZ = s.flagZ := rfl
@[simp] theorem fetchLatch_flagI (s : State) : (fetchLatch s).flagI = s.flagI := rfl
@[simp] theorem fetchLatch_flagD (s : State) : (fetchLatch s).flagD = s.flagD := rfl
@[simp] theorem fetchLatch_flagB (s : State) : (fetchLatch s).flagB = s.flagB := rfl
@[simp] theorem fetchLatch_flagV (s : State) : (fetchLatch s).flagV = s.flagV := rfl
@[simp] theorem fetchLatch_flagN (s : State) : (fetchLatch s).flagN = s.flagN := rfl
@[simp] theorem fetchLatch_ir (s : State) : (fetchLatch s).ir = memRead s s.pc := rfl
@[simp] theorem fetchLatch_tl (s : State) : (fetchLatch s).tl = s.tl := rfl
@[simp] theorem fetchLatch_th (s : State) : (fetchLatch s).th = s.th := rfl
@[simp] theorem fetchLatch_mem (s : State) : (fetchLatch s).mem = s.mem := rfl
@[simp] theorem fetchLatch_initialized (s : State) : (fetchLatch s).initialized = s.initialized := rfl
@[simp] theorem fetchLatch_faultRecord (s : State) : (fetchLatch s).faultRecord = s.faultRecord := rfl
@[simp] theorem fetchLatch_draws (s : State) : (fetchLatch s).draws = s.draws := rfl

@[simp] theorem setOperand_pc (n : Word) (hi lo : Byte) (s : State) : (setOperand n hi lo s).pc = s.pc + n := rfl
@[simp] theorem setOperand_sp (n : Word) (hi lo : Byte) (s : State) : (setOperand n hi lo s).sp = s.sp := rfl
@[simp] theorem setOperand_acc (n : Word) (hi lo : Byte) (s : State) : (setOperand n hi lo s).acc = s.acc := rfl
@[simp] theorem setOperand_x (n : Word) (hi lo : Byte) (s : State) : (setOperand n hi lo s).x = s.x := rfl
@[simp] theorem setOperand_y (n : Word) (hi lo : Byte) (s : State) : (setOperand n hi lo s).y = s.y := rfl
@[simp] theorem setOperand_flagC (n : Word) (hi lo : Byte) (s : State) : (setOperand n hi lo s).flagC = s.flagC := rfl
@[simp] theorem setOperand_flagZ (n : Word) (hi lo : Byte) (s : State) : (setOperand n hi lo s).flagZ = s.flagZ := rfl
@[simp] theorem setOperand_flagI (n : Word) (hi lo : Byte) (s : State) : (setOperand n hi lo s).flagI = s.flagI := rfl
@[simp] theorem setOperand_flagD (n : Word) (hi lo : Byte) (s : State) : (setOperand n hi lo s).flagD = s.flagD := rfl
@[simp] theorem setOperand_flagB (n : Word) (hi lo : Byte) (s : State) : (setOperand n hi lo s).flagB = s.flagB := rfl
@[simp] theorem setOperand_flagV (n : Word) (hi lo : Byte) (s : State) : (setOperand n hi lo s).flagV = s.flagV := rfl
@[simp] theorem setOperand_flagN (n : Word) (hi lo : Byte) (s : State) : (setOperand n hi lo s).flagN = s.flagN := rfl
@[simp] theorem setOperand_ir (n : Word) (hi lo : Byte) (s : State) : (setOperand n hi lo s).ir = s.ir := rfl
@[simp] theorem setOperand_tl (n : Word) (hi lo : Byte) (s : State) : (setOperand n hi lo s).tl = lo := rfl
@[simp] theorem setOperand_th (n : Word) (hi lo : Byte) (s : State) : (setOperand n hi lo s).th = hi := rfl
@[simp] theorem setOperand_mem (n : Word) (hi lo : Byte) (s : State) : (setOperand n hi lo s).mem = s.mem := rfl
@[simp] theorem setOperand_initialized (n : Word) (hi lo : Byte) (s : State) : (setOperand n hi lo s).initialized = s.initialized := rfl
@[simp] theorem setOperand_faultRecord (n : Word) (hi lo : Byte) (s : State) : (setOperand n hi lo s).faultRecord = s.faultRecord := rfl
@[simp] theorem setOperand_draws (n : Word) (hi lo : Byte) (s : State) : (setOperand n hi lo s).draws = s.draws := rfl

end Sys2Proof.Machine
end

