-- ==== Sys2Proof/Laws/Memory.lean ====
section
/-! SUPPORT. The laws of memory: a read after a write, and the canonical form. -/

namespace Sys2Proof.Machine

/-- A canonical form from `lo` on is one from any lower address on. -/
theorem Memory.wfFrom_mono {m : Memory} {lo lo' : Nat} (hle : lo' ≤ lo) (h : Memory.wfFrom lo m = true) :
    Memory.wfFrom lo' m = true := by
  cases m with
  | nil => rfl
  | cons p rest =>
    obtain ⟨k, w⟩ := p
    simp only [Memory.wfFrom, Bool.and_eq_true, decide_eq_true_eq] at h ⊢
    exact ⟨⟨⟨by omega, h.1.1.2⟩, h.1.2⟩, h.2⟩

/-- Below the first listed address every byte is the unlisted one. -/
theorem Memory.read_below {m : Memory} {lo a : Nat} (h : Memory.wfFrom lo m = true) (ha : a < lo) :
    Memory.read m a = Memory.unlisted := by
  induction m generalizing lo with
  | nil => rfl
  | cons p rest ih =>
    obtain ⟨k, w⟩ := p
    simp only [Memory.wfFrom, Bool.and_eq_true, decide_eq_true_eq] at h
    have hk : k ≠ a := by omega
    simp only [Memory.read, if_neg hk]
    exact ih h.2 (by omega)

/-- A write leaves every other address alone, whatever the form of the memory. -/
theorem Memory.read_write_other {m : Memory} {a b : Nat} {v : Byte} (hab : b ≠ a) :
    Memory.read (Memory.write m a v) b = Memory.read m b := by
  induction m with
  | nil =>
    by_cases hv : v = Memory.unlisted
    · simp [Memory.write, Memory.read, hv]
    · simp [Memory.write, Memory.read, hv, Ne.symm hab]
  | cons p rest ih =>
    obtain ⟨k, w⟩ := p
    have hba : ¬ a = b := fun h => hab h.symm
    by_cases h1 : a < k
    · by_cases hv : v = Memory.unlisted <;> simp [Memory.write, Memory.read, h1, hv, hba]
    · by_cases h2 : a = k
      · subst h2
        by_cases hv : v = Memory.unlisted <;> simp [Memory.write, Memory.read, hv, hba]
      · simp only [Memory.write, if_neg h1, if_neg h2, Memory.read]
        by_cases hk : k = b
        · simp [hk]
        · simpa [hk] using ih

/-- A canonical memory reads back what was written. -/
theorem Memory.read_write_same {m : Memory} {lo a : Nat} {v : Byte} (h : Memory.wfFrom lo m = true) :
    Memory.read (Memory.write m a v) a = v := by
  induction m generalizing lo with
  | nil => by_cases hv : v = Memory.unlisted <;> simp [Memory.write, Memory.read, hv]
  | cons p rest ih =>
    obtain ⟨k, w⟩ := p
    simp only [Memory.wfFrom, Bool.and_eq_true, decide_eq_true_eq] at h
    by_cases h1 : a < k
    · have hb : Memory.read rest a = Memory.unlisted := Memory.read_below h.2 (by omega)
      have hk : ¬ k = a := by omega
      by_cases hv : v = Memory.unlisted <;> simp [Memory.write, Memory.read, h1, hv, hb, hk]
    · by_cases h2 : a = k
      · subst h2
        have hb : Memory.read rest a = Memory.unlisted := Memory.read_below h.2 (by omega)
        by_cases hv : v = Memory.unlisted <;> simp [Memory.write, Memory.read, hv, hb]
      · have hk : ¬ k = a := fun e => h2 e.symm
        simp only [Memory.write, if_neg h1, if_neg h2, Memory.read, if_neg hk]
        exact ih h.2

/-- A write keeps the canonical form. -/
theorem Memory.wfFrom_write {m : Memory} {lo a : Nat} {v : Byte} (h : Memory.wfFrom lo m = true)
    (hlo : lo ≤ a) (ha : a < 65536) : Memory.wfFrom lo (Memory.write m a v) = true := by
  induction m generalizing lo with
  | nil =>
    by_cases hv : v = Memory.unlisted <;> simp [Memory.write, Memory.wfFrom, hv, hlo, ha]
  | cons p rest ih =>
    obtain ⟨k, w⟩ := p
    have h' := h
    simp only [Memory.wfFrom, Bool.and_eq_true, decide_eq_true_eq] at h
    obtain ⟨⟨⟨hk, hk2⟩, hw⟩, hr⟩ := h
    by_cases h1 : a < k
    · by_cases hv : v = Memory.unlisted
      · simpa [Memory.write, h1, hv] using h'
      · simp [Memory.write, Memory.wfFrom, h1, hv, hlo, ha, hk2, hr]
        exact fun e => by simp [e] at hw
    · by_cases h2 : a = k
      · subst h2
        by_cases hv : v = Memory.unlisted
        · simpa [Memory.write, hv] using Memory.wfFrom_mono (by omega) hr
        · simp [Memory.write, Memory.wfFrom, hv, hk, hk2, hr]
      · simp only [Memory.write, if_neg h1, if_neg h2, Memory.wfFrom, Bool.and_eq_true, decide_eq_true_eq]
        exact ⟨⟨⟨hk, hk2⟩, hw⟩, ih hr (by omega)⟩

/-- A one-byte write through a 16-bit address keeps the canonical form. -/
theorem Memory.wf_write {m : Memory} (a : Word) (v : Byte) (h : Memory.wf m = true) :
    Memory.wf (Memory.write m a.toNat v) = true :=
  Memory.wfFrom_write h (Nat.zero_le _) a.isLt

/-- `MemWrite` then `MemRead` at the same address. -/
theorem memRead_memWrite_same {s : State} (a : Word) (v : Byte) (h : Memory.wf s.mem = true) :
    memRead (memWrite a v s) a = v :=
  Memory.read_write_same h

/-- `MemWrite` leaves every other byte alone. -/
theorem memRead_memWrite_other {s : State} {a b : Word} (v : Byte) (hab : b ≠ a) :
    memRead (memWrite a v s) b = memRead s b :=
  Memory.read_write_other (fun h => hab (BitVec.eq_of_toNat_eq h))

/-- A read depends on memory alone. -/
theorem memRead_congr {s t : State} (h : t.mem = s.mem) (a : Word) : memRead t a = memRead s a := by
  simp only [memRead, h]

end Sys2Proof.Machine
end

