-- ==== Sys2Proof/Laws/Ops.lean ====
section
/-! SUPPORT. One lemma per shared operation: what it can do. -/

namespace Sys2Proof.Machine

@[simp] theorem word16_hi8_lo8 (w : Word) : word16 (hi8 w) (lo8 w) = w := by
  apply BitVec.eq_of_getLsbD_eq
  intro i hi
  simp only [word16, hi8, lo8, BitVec.getLsbD_append, BitVec.getLsbD_extractLsb']
  by_cases h : i < 8
  · simp [h]
  · simp only [h, if_false]
    have h2 : i - 8 < 8 := by omega
    have h3 : 8 + (i - 8) = i := by omega
    simp [h2, h3]

@[simp] theorem lo8_word16 (hi lo : Byte) : lo8 (word16 hi lo) = lo := by
  apply BitVec.eq_of_getLsbD_eq
  intro i h
  simp only [word16, lo8, BitVec.getLsbD_extractLsb', BitVec.getLsbD_append]
  simp [h]

@[simp] theorem hi8_word16 (hi lo : Byte) : hi8 (word16 hi lo) = hi := by
  apply BitVec.eq_of_getLsbD_eq
  intro i h
  simp only [word16, hi8, BitVec.getLsbD_extractLsb', BitVec.getLsbD_append]
  simp [h]

/-- The effective address a resolver's pair names (40_addressing.md R71). -/
@[simp] theorem effAddr_setOperand (n : Word) (hi lo : Byte) (s : State) :
    effAddr (setOperand n hi lo s) = word16 hi lo := rfl

/-- The effective addresses of the resolvers, in terms of the state they are called with (40_addressing.md R75-R84). -/
theorem effAddr_resolveZp (b : Byte) (s : State) : effAddr (resolveZp b s) = word16 0 b := rfl

theorem effAddr_resolveZpx (b : Byte) (s : State) : effAddr (resolveZpx b s) = word16 0 (b + s.x) := rfl

theorem effAddr_resolveZpy (b : Byte) (s : State) : effAddr (resolveZpy b s) = word16 0 (b + s.y) := rfl

theorem effAddr_resolveAbs (lo hi : Byte) (s : State) : effAddr (resolveAbs lo hi s) = word16 hi lo := rfl

theorem effAddr_resolveAbsx (lo hi : Byte) (s : State) :
    effAddr (resolveAbsx lo hi s) = word16 hi lo + zext16 s.x := by
  simp [resolveAbsx, resolveIndexed]

theorem effAddr_resolveAbsy (lo hi : Byte) (s : State) :
    effAddr (resolveAbsy lo hi s) = word16 hi lo + zext16 s.y := by
  simp [resolveAbsy, resolveIndexed]

theorem effAddr_resolveInd (lo hi : Byte) (s : State) :
    effAddr (resolveInd lo hi s) = word16 (memRead s (word16 hi lo + 1)) (memRead s (word16 hi lo)) := rfl

theorem effAddr_resolveIndx (b : Byte) (s : State) : effAddr (resolveIndx b s) = zpRead16 s (b + s.x) := by
  simp [resolveIndx]

theorem effAddr_resolveIndy (b : Byte) (s : State) :
    effAddr (resolveIndy b s) = zpRead16 s b + zext16 s.y := by
  simp [resolveIndy]

/-- The zero-page pointer wraps within page 0 (log 3: DESIGN CHOICE (D8), unsafe). -/
theorem zpRead16_eq (s : State) (z : Byte) :
    zpRead16 s z = word16 (memRead s (zext16 (z + 1))) (memRead s (zext16 z)) := rfl

/-- An executor on an immediate always completes. -/
theorem onImm_eq (f : Byte → State → State) (r : State) : onImm f r = .next (f r.tl r) := rfl

/-- An executor on a memory operand always completes. -/
theorem onMem_eq (f : Byte → State → State) (r : State) : onMem f r = .next (f (memRead r (effAddr r)) r) := rfl

/-- The unknown-opcode outcome is a next state that differs in the record alone (60_exceptions.md R134, R136). -/
theorem unknownOpcode_eq (op : Byte) (s : State) :
    unknownOpcode op s = .next { s with faultRecord := s.faultRecord ++ [(s.pc - 1, op)] } := rfl

/-- A stack write touches the stack byte alone (44_stack.md R107). -/
theorem memRead_push_other {s : State} {a : Word} (v : Byte) (h : a ≠ stackAddr s.sp) :
    memRead (push v s) a = memRead s a :=
  memRead_memWrite_other v h

/-- After `initialize()` a step is the meaning of the fetched instruction in the state after Fetch (30_encoding.md R62). -/
theorem step_of_initialized {s : State} (h : s.initialized = true) :
    step s = exec (fetchInstr s) (fetchLatch s) := if_pos h

/-- Before `initialize()` a step is refused (70_reset_and_hazards.md R151). -/
theorem step_of_not_initialized {s : State} (h : s.initialized = false) : step s = .refused .notInitialized := by
  simp [step, h]

/-- A step that completes comes after `initialize()`, and is the meaning of the fetched instruction. -/
theorem step_next {s t : State} (h : step s = .next t) :
    s.initialized = true ∧ exec (fetchInstr s) (fetchLatch s) = .next t := by
  cases hi : s.initialized with
  | true => exact ⟨rfl, (step_of_initialized hi).symm.trans h⟩
  | false => rw [step_of_not_initialized hi] at h; cases h

/-- Before `initialize()` a run is refused, whatever B is (70_reset_and_hazards.md R151). -/
theorem hostRun_of_not_initialized {s : State} (fuel : Nat) (h : s.initialized = false) :
    hostRun fuel s = .refused .notInitialized := by
  cases fuel <;> simp [hostRun, h]

/-- A run whose B is set has returned (70_reset_and_hazards.md R155). -/
theorem hostRun_of_break {s : State} (fuel : Nat) (hi : s.initialized = true) (h : s.flagB = true) :
    hostRun fuel s = .next (.returned s) := by
  cases fuel <;> simp [hostRun, hi, h]

/-- The copy loop writes nothing below 0x8000 + k (70_reset_and_hazards.md R152). -/
theorem read_loadBlocks_below {a : Nat} (k : Nat) (first second : List Byte) (m : Memory) (h : a < 0x8000 + k) :
    Memory.read (loadBlocks k first second m) a = Memory.read m a := by
  induction first generalizing k second m with
  | nil => simp [loadBlocks]
  | cons b1 rest1 ih =>
    cases second with
    | nil => simp [loadBlocks]
    | cons b2 rest2 =>
      simp only [loadBlocks]
      rw [ih (k + 1) rest2 _ (by omega), Memory.read_write_other (by omega), Memory.read_write_other (by omega)]

end Sys2Proof.Machine
end

