-- ==== Sys2Proof/Laws/PerInstr.lean ====
section
/-! SUPPORT. Facts about every instruction as syntax, one lemma per constructor. -/

/-- The table entry of an instruction's opcode gives its length (30_encoding.md R54, R59): the operand bytes are the entry's
length less one, and none where the entry is absent (length 0, R55). -/
def Sys2Proof.Laws.EncodeLength.Statement (i : Sys2Proof.Instr) : Prop :=
  i.wellFormed = true →
    i.operands.length = (Sys2Proof.tableEntry i.opcode).length - 1

namespace Sys2Proof.Laws.EncodeLength

theorem ldaImm (imm : Byte) : Statement (.ldaImm imm) := by
  intro _; change 1 = (tableEntry 0xA9).length - 1; rfl
theorem ldaZp (zp : Byte) : Statement (.ldaZp zp) := by
  intro _; change 1 = (tableEntry 0xA5).length - 1; rfl
theorem ldaZpx (zp : Byte) : Statement (.ldaZpx zp) := by
  intro _; change 1 = (tableEntry 0xB5).length - 1; rfl
theorem ldaAbs (lo hi : Byte) : Statement (.ldaAbs lo hi) := by
  intro _; change 2 = (tableEntry 0xAD).length - 1; rfl
theorem ldaAbsx (lo hi : Byte) : Statement (.ldaAbsx lo hi) := by
  intro _; change 2 = (tableEntry 0xBD).length - 1; rfl
theorem ldaAbsy (lo hi : Byte) : Statement (.ldaAbsy lo hi) := by
  intro _; change 2 = (tableEntry 0xB9).length - 1; rfl
theorem ldaIndx (zp : Byte) : Statement (.ldaIndx zp) := by
  intro _; change 1 = (tableEntry 0xA1).length - 1; rfl
theorem ldaIndy (zp : Byte) : Statement (.ldaIndy zp) := by
  intro _; change 1 = (tableEntry 0xB1).length - 1; rfl
theorem ldxImm (imm : Byte) : Statement (.ldxImm imm) := by
  intro _; change 1 = (tableEntry 0xA2).length - 1; rfl
theorem ldxZp (zp : Byte) : Statement (.ldxZp zp) := by
  intro _; change 1 = (tableEntry 0xA6).length - 1; rfl
theorem ldxZpy (zp : Byte) : Statement (.ldxZpy zp) := by
  intro _; change 1 = (tableEntry 0xB6).length - 1; rfl
theorem ldxAbs (lo hi : Byte) : Statement (.ldxAbs lo hi) := by
  intro _; change 2 = (tableEntry 0xAE).length - 1; rfl
theorem ldxAbsy (lo hi : Byte) : Statement (.ldxAbsy lo hi) := by
  intro _; change 2 = (tableEntry 0xBE).length - 1; rfl
theorem ldyImm (imm : Byte) : Statement (.ldyImm imm) := by
  intro _; change 1 = (tableEntry 0xA0).length - 1; rfl
theorem ldyZp (zp : Byte) : Statement (.ldyZp zp) := by
  intro _; change 1 = (tableEntry 0xA4).length - 1; rfl
theorem ldyZpx (zp : Byte) : Statement (.ldyZpx zp) := by
  intro _; change 1 = (tableEntry 0xB4).length - 1; rfl
theorem ldyAbs (lo hi : Byte) : Statement (.ldyAbs lo hi) := by
  intro _; change 2 = (tableEntry 0xAC).length - 1; rfl
theorem ldyAbsx (lo hi : Byte) : Statement (.ldyAbsx lo hi) := by
  intro _; change 2 = (tableEntry 0xBC).length - 1; rfl
theorem staZp (zp : Byte) : Statement (.staZp zp) := by
  intro _; change 1 = (tableEntry 0x85).length - 1; rfl
theorem staZpx (zp : Byte) : Statement (.staZpx zp) := by
  intro _; change 1 = (tableEntry 0x95).length - 1; rfl
theorem staAbs (lo hi : Byte) : Statement (.staAbs lo hi) := by
  intro _; change 2 = (tableEntry 0x8D).length - 1; rfl
theorem staAbsx (lo hi : Byte) : Statement (.staAbsx lo hi) := by
  intro _; change 2 = (tableEntry 0x9D).length - 1; rfl
theorem staAbsy (lo hi : Byte) : Statement (.staAbsy lo hi) := by
  intro _; change 2 = (tableEntry 0x99).length - 1; rfl
theorem staIndx (zp : Byte) : Statement (.staIndx zp) := by
  intro _; change 1 = (tableEntry 0x81).length - 1; rfl
theorem staIndy (zp : Byte) : Statement (.staIndy zp) := by
  intro _; change 1 = (tableEntry 0x91).length - 1; rfl
theorem stxZp (zp : Byte) : Statement (.stxZp zp) := by
  intro _; change 1 = (tableEntry 0x86).length - 1; rfl
theorem stxZpy (zp : Byte) : Statement (.stxZpy zp) := by
  intro _; change 1 = (tableEntry 0x96).length - 1; rfl
theorem stxAbs (lo hi : Byte) : Statement (.stxAbs lo hi) := by
  intro _; change 2 = (tableEntry 0x8E).length - 1; rfl
theorem styZp (zp : Byte) : Statement (.styZp zp) := by
  intro _; change 1 = (tableEntry 0x84).length - 1; rfl
theorem styZpx (zp : Byte) : Statement (.styZpx zp) := by
  intro _; change 1 = (tableEntry 0x94).length - 1; rfl
theorem styAbs (lo hi : Byte) : Statement (.styAbs lo hi) := by
  intro _; change 2 = (tableEntry 0x8C).length - 1; rfl
theorem cmpImm (imm : Byte) : Statement (.cmpImm imm) := by
  intro _; change 1 = (tableEntry 0xC9).length - 1; rfl
theorem cmpZp (zp : Byte) : Statement (.cmpZp zp) := by
  intro _; change 1 = (tableEntry 0xC5).length - 1; rfl
theorem cmpZpx (zp : Byte) : Statement (.cmpZpx zp) := by
  intro _; change 1 = (tableEntry 0xD5).length - 1; rfl
theorem cmpAbs (lo hi : Byte) : Statement (.cmpAbs lo hi) := by
  intro _; change 2 = (tableEntry 0xCD).length - 1; rfl
theorem cmpAbsx (lo hi : Byte) : Statement (.cmpAbsx lo hi) := by
  intro _; change 2 = (tableEntry 0xDD).length - 1; rfl
theorem cmpAbsy (lo hi : Byte) : Statement (.cmpAbsy lo hi) := by
  intro _; change 2 = (tableEntry 0xD9).length - 1; rfl
theorem cmpIndx (zp : Byte) : Statement (.cmpIndx zp) := by
  intro _; change 1 = (tableEntry 0xC1).length - 1; rfl
theorem cmpIndy (zp : Byte) : Statement (.cmpIndy zp) := by
  intro _; change 1 = (tableEntry 0xD1).length - 1; rfl
theorem cpxImm (imm : Byte) : Statement (.cpxImm imm) := by
  intro _; change 1 = (tableEntry 0xE0).length - 1; rfl
theorem cpxZp (zp : Byte) : Statement (.cpxZp zp) := by
  intro _; change 1 = (tableEntry 0xE4).length - 1; rfl
theorem cpxAbs (lo hi : Byte) : Statement (.cpxAbs lo hi) := by
  intro _; change 2 = (tableEntry 0xEC).length - 1; rfl
theorem cpyImm (imm : Byte) : Statement (.cpyImm imm) := by
  intro _; change 1 = (tableEntry 0xC0).length - 1; rfl
theorem cpyZp (zp : Byte) : Statement (.cpyZp zp) := by
  intro _; change 1 = (tableEntry 0xC4).length - 1; rfl
theorem cpyAbs (lo hi : Byte) : Statement (.cpyAbs lo hi) := by
  intro _; change 2 = (tableEntry 0xCC).length - 1; rfl
theorem incZp (zp : Byte) : Statement (.incZp zp) := by
  intro _; change 1 = (tableEntry 0xE6).length - 1; rfl
theorem incZpx (zp : Byte) : Statement (.incZpx zp) := by
  intro _; change 1 = (tableEntry 0xF6).length - 1; rfl
theorem incAbs (lo hi : Byte) : Statement (.incAbs lo hi) := by
  intro _; change 2 = (tableEntry 0xEE).length - 1; rfl
theorem incAbsx (lo hi : Byte) : Statement (.incAbsx lo hi) := by
  intro _; change 2 = (tableEntry 0xFE).length - 1; rfl
theorem decZp (zp : Byte) : Statement (.decZp zp) := by
  intro _; change 1 = (tableEntry 0xC6).length - 1; rfl
theorem decZpx (zp : Byte) : Statement (.decZpx zp) := by
  intro _; change 1 = (tableEntry 0xD6).length - 1; rfl
theorem decAbs (lo hi : Byte) : Statement (.decAbs lo hi) := by
  intro _; change 2 = (tableEntry 0xCE).length - 1; rfl
theorem decAbsx (lo hi : Byte) : Statement (.decAbsx lo hi) := by
  intro _; change 2 = (tableEntry 0xDE).length - 1; rfl
theorem inx : Statement (.inx) := by
  intro _; change 0 = (tableEntry 0xE8).length - 1; rfl
theorem iny : Statement (.iny) := by
  intro _; change 0 = (tableEntry 0xC8).length - 1; rfl
theorem dex : Statement (.dex) := by
  intro _; change 0 = (tableEntry 0xCA).length - 1; rfl
theorem dey : Statement (.dey) := by
  intro _; change 0 = (tableEntry 0x88).length - 1; rfl
theorem andImm (imm : Byte) : Statement (.andImm imm) := by
  intro _; change 1 = (tableEntry 0x29).length - 1; rfl
theorem andZp (zp : Byte) : Statement (.andZp zp) := by
  intro _; change 1 = (tableEntry 0x25).length - 1; rfl
theorem andZpx (zp : Byte) : Statement (.andZpx zp) := by
  intro _; change 1 = (tableEntry 0x35).length - 1; rfl
theorem andAbs (lo hi : Byte) : Statement (.andAbs lo hi) := by
  intro _; change 2 = (tableEntry 0x2D).length - 1; rfl
theorem andAbsx (lo hi : Byte) : Statement (.andAbsx lo hi) := by
  intro _; change 2 = (tableEntry 0x3D).length - 1; rfl
theorem andAbsy (lo hi : Byte) : Statement (.andAbsy lo hi) := by
  intro _; change 2 = (tableEntry 0x39).length - 1; rfl
theorem andIndx (zp : Byte) : Statement (.andIndx zp) := by
  intro _; change 1 = (tableEntry 0x21).length - 1; rfl
theorem andIndy (zp : Byte) : Statement (.andIndy zp) := by
  intro _; change 1 = (tableEntry 0x31).length - 1; rfl
theorem oraImm (imm : Byte) : Statement (.oraImm imm) := by
  intro _; change 1 = (tableEntry 0x09).length - 1; rfl
theorem oraZp (zp : Byte) : Statement (.oraZp zp) := by
  intro _; change 1 = (tableEntry 0x05).length - 1; rfl
theorem oraZpx (zp : Byte) : Statement (.oraZpx zp) := by
  intro _; change 1 = (tableEntry 0x15).length - 1; rfl
theorem oraAbs (lo hi : Byte) : Statement (.oraAbs lo hi) := by
  intro _; change 2 = (tableEntry 0x0D).length - 1; rfl
theorem oraAbsx (lo hi : Byte) : Statement (.oraAbsx lo hi) := by
  intro _; change 2 = (tableEntry 0x1D).length - 1; rfl
theorem oraAbsy (lo hi : Byte) : Statement (.oraAbsy lo hi) := by
  intro _; change 2 = (tableEntry 0x19).length - 1; rfl
theorem oraIndx (zp : Byte) : Statement (.oraIndx zp) := by
  intro _; change 1 = (tableEntry 0x01).length - 1; rfl
theorem oraIndy (zp : Byte) : Statement (.oraIndy zp) := by
  intro _; change 1 = (tableEntry 0x11).length - 1; rfl
theorem eorImm (imm : Byte) : Statement (.eorImm imm) := by
  intro _; change 1 = (tableEntry 0x49).length - 1; rfl
theorem eorZp (zp : Byte) : Statement (.eorZp zp) := by
  intro _; change 1 = (tableEntry 0x45).length - 1; rfl
theorem eorZpx (zp : Byte) : Statement (.eorZpx zp) := by
  intro _; change 1 = (tableEntry 0x55).length - 1; rfl
theorem eorAbs (lo hi : Byte) : Statement (.eorAbs lo hi) := by
  intro _; change 2 = (tableEntry 0x4D).length - 1; rfl
theorem eorAbsx (lo hi : Byte) : Statement (.eorAbsx lo hi) := by
  intro _; change 2 = (tableEntry 0x5D).length - 1; rfl
theorem eorAbsy (lo hi : Byte) : Statement (.eorAbsy lo hi) := by
  intro _; change 2 = (tableEntry 0x59).length - 1; rfl
theorem eorIndx (zp : Byte) : Statement (.eorIndx zp) := by
  intro _; change 1 = (tableEntry 0x41).length - 1; rfl
theorem eorIndy (zp : Byte) : Statement (.eorIndy zp) := by
  intro _; change 1 = (tableEntry 0x51).length - 1; rfl
theorem lsrAcc : Statement (.lsrAcc) := by
  intro _; change 0 = (tableEntry 0x4A).length - 1; rfl
theorem lsrZp (zp : Byte) : Statement (.lsrZp zp) := by
  intro _; change 1 = (tableEntry 0x46).length - 1; rfl
theorem lsrZpx (zp : Byte) : Statement (.lsrZpx zp) := by
  intro _; change 1 = (tableEntry 0x56).length - 1; rfl
theorem lsrAbs (lo hi : Byte) : Statement (.lsrAbs lo hi) := by
  intro _; change 2 = (tableEntry 0x4E).length - 1; rfl
theorem lsrAbsx (lo hi : Byte) : Statement (.lsrAbsx lo hi) := by
  intro _; change 2 = (tableEntry 0x5E).length - 1; rfl
theorem pha : Statement (.pha) := by
  intro _; change 0 = (tableEntry 0x48).length - 1; rfl
theorem php : Statement (.php) := by
  intro _; change 0 = (tableEntry 0x08).length - 1; rfl
theorem pla : Statement (.pla) := by
  intro _; change 0 = (tableEntry 0x68).length - 1; rfl
theorem plp : Statement (.plp) := by
  intro _; change 0 = (tableEntry 0x28).length - 1; rfl
theorem clc : Statement (.clc) := by
  intro _; change 0 = (tableEntry 0x18).length - 1; rfl
theorem sec : Statement (.sec) := by
  intro _; change 0 = (tableEntry 0x38).length - 1; rfl
theorem cld : Statement (.cld) := by
  intro _; change 0 = (tableEntry 0xD8).length - 1; rfl
theorem sed : Statement (.sed) := by
  intro _; change 0 = (tableEntry 0xF8).length - 1; rfl
theorem cli : Statement (.cli) := by
  intro _; change 0 = (tableEntry 0x58).length - 1; rfl
theorem sei : Statement (.sei) := by
  intro _; change 0 = (tableEntry 0x78).length - 1; rfl
theorem clv : Statement (.clv) := by
  intro _; change 0 = (tableEntry 0xB8).length - 1; rfl
theorem tax : Statement (.tax) := by
  intro _; change 0 = (tableEntry 0xAA).length - 1; rfl
theorem txa : Statement (.txa) := by
  intro _; change 0 = (tableEntry 0x8A).length - 1; rfl
theorem tay : Statement (.tay) := by
  intro _; change 0 = (tableEntry 0xA8).length - 1; rfl
theorem tya : Statement (.tya) := by
  intro _; change 0 = (tableEntry 0x98).length - 1; rfl
theorem tsx : Statement (.tsx) := by
  intro _; change 0 = (tableEntry 0xBA).length - 1; rfl
theorem txs : Statement (.txs) := by
  intro _; change 0 = (tableEntry 0x9A).length - 1; rfl
theorem jmpAbs (lo hi : Byte) : Statement (.jmpAbs lo hi) := by
  intro _; change 2 = (tableEntry 0x4C).length - 1; rfl
theorem jmpInd (lo hi : Byte) : Statement (.jmpInd lo hi) := by
  intro _; change 2 = (tableEntry 0x6C).length - 1; rfl
theorem brk : Statement (.brk) := by
  intro _; change 0 = (tableEntry 0x00).length - 1; rfl
theorem nop : Statement (.nop) := by
  intro _; change 0 = (tableEntry 0xEA).length - 1; rfl
theorem adcImm (imm : Byte) : Statement (.adcImm imm) := by
  intro _; change 1 = (tableEntry 0x69).length - 1; rfl
theorem adcZp (zp : Byte) : Statement (.adcZp zp) := by
  intro _; change 1 = (tableEntry 0x65).length - 1; rfl
theorem adcZpx (zp : Byte) : Statement (.adcZpx zp) := by
  intro _; change 1 = (tableEntry 0x75).length - 1; rfl
theorem adcAbs (lo hi : Byte) : Statement (.adcAbs lo hi) := by
  intro _; change 2 = (tableEntry 0x6D).length - 1; rfl
theorem adcAbsx (lo hi : Byte) : Statement (.adcAbsx lo hi) := by
  intro _; change 2 = (tableEntry 0x7D).length - 1; rfl
theorem adcAbsy (lo hi : Byte) : Statement (.adcAbsy lo hi) := by
  intro _; change 2 = (tableEntry 0x79).length - 1; rfl
theorem adcIndx (zp : Byte) : Statement (.adcIndx zp) := by
  intro _; change 1 = (tableEntry 0x61).length - 1; rfl
theorem adcIndy (zp : Byte) : Statement (.adcIndy zp) := by
  intro _; change 1 = (tableEntry 0x71).length - 1; rfl
theorem bpl : Statement (.bpl) := by
  intro _; change 0 = (tableEntry 0x10).length - 1; rfl
theorem bmi : Statement (.bmi) := by
  intro _; change 0 = (tableEntry 0x30).length - 1; rfl
theorem bvc : Statement (.bvc) := by
  intro _; change 0 = (tableEntry 0x50).length - 1; rfl
theorem bvs : Statement (.bvs) := by
  intro _; change 0 = (tableEntry 0x70).length - 1; rfl
theorem bcc : Statement (.bcc) := by
  intro _; change 0 = (tableEntry 0x90).length - 1; rfl
theorem bcs : Statement (.bcs) := by
  intro _; change 0 = (tableEntry 0xB0).length - 1; rfl
theorem bne : Statement (.bne) := by
  intro _; change 0 = (tableEntry 0xD0).length - 1; rfl
theorem beq : Statement (.beq) := by
  intro _; change 0 = (tableEntry 0xF0).length - 1; rfl
theorem jsr : Statement (.jsr) := by
  intro _; change 0 = (tableEntry 0x20).length - 1; rfl
theorem rts : Statement (.rts) := by
  intro _; change 0 = (tableEntry 0x60).length - 1; rfl
theorem rti : Statement (.rti) := by
  intro _; change 0 = (tableEntry 0x40).length - 1; rfl
theorem rolZp : Statement (.rolZp) := by
  intro _; change 0 = (tableEntry 0x26).length - 1; rfl
theorem rolAcc : Statement (.rolAcc) := by
  intro _; change 0 = (tableEntry 0x2A).length - 1; rfl
theorem rolAbs : Statement (.rolAbs) := by
  intro _; change 0 = (tableEntry 0x2E).length - 1; rfl
theorem rolZpx : Statement (.rolZpx) := by
  intro _; change 0 = (tableEntry 0x36).length - 1; rfl
theorem rolAbsx : Statement (.rolAbsx) := by
  intro _; change 0 = (tableEntry 0x3E).length - 1; rfl
theorem rorZp : Statement (.rorZp) := by
  intro _; change 0 = (tableEntry 0x66).length - 1; rfl
theorem rorAcc : Statement (.rorAcc) := by
  intro _; change 0 = (tableEntry 0x6A).length - 1; rfl
theorem rorAbs : Statement (.rorAbs) := by
  intro _; change 0 = (tableEntry 0x6E).length - 1; rfl
theorem rorZpx : Statement (.rorZpx) := by
  intro _; change 0 = (tableEntry 0x76).length - 1; rfl
theorem rorAbsx : Statement (.rorAbsx) := by
  intro _; change 0 = (tableEntry 0x7E).length - 1; rfl
theorem sbcIndx : Statement (.sbcIndx) := by
  intro _; change 0 = (tableEntry 0xE1).length - 1; rfl
theorem sbcZp : Statement (.sbcZp) := by
  intro _; change 0 = (tableEntry 0xE5).length - 1; rfl
theorem sbcImm : Statement (.sbcImm) := by
  intro _; change 0 = (tableEntry 0xE9).length - 1; rfl
theorem sbcAbs : Statement (.sbcAbs) := by
  intro _; change 0 = (tableEntry 0xED).length - 1; rfl
theorem sbcIndy : Statement (.sbcIndy) := by
  intro _; change 0 = (tableEntry 0xF1).length - 1; rfl
theorem sbcZpx : Statement (.sbcZpx) := by
  intro _; change 0 = (tableEntry 0xF5).length - 1; rfl
theorem sbcAbsy : Statement (.sbcAbsy) := by
  intro _; change 0 = (tableEntry 0xF9).length - 1; rfl
theorem sbcAbsx : Statement (.sbcAbsx) := by
  intro _; change 0 = (tableEntry 0xFD).length - 1; rfl
theorem aslZp : Statement (.aslZp) := by
  intro _; change 0 = (tableEntry 0x06).length - 1; rfl
theorem aslAcc : Statement (.aslAcc) := by
  intro _; change 0 = (tableEntry 0x0A).length - 1; rfl
theorem aslAbs : Statement (.aslAbs) := by
  intro _; change 0 = (tableEntry 0x0E).length - 1; rfl
theorem aslZpx : Statement (.aslZpx) := by
  intro _; change 0 = (tableEntry 0x16).length - 1; rfl
theorem aslAbsx : Statement (.aslAbsx) := by
  intro _; change 0 = (tableEntry 0x1E).length - 1; rfl
theorem bitZp : Statement (.bitZp) := by
  intro _; change 0 = (tableEntry 0x24).length - 1; rfl
theorem bitAbs : Statement (.bitAbs) := by
  intro _; change 0 = (tableEntry 0x2C).length - 1; rfl
theorem undocumented (op : Byte) : Statement (.undocumented op) := by
  have h : ∀ b ∈ undocumentedOpcodes, (tableEntry b).length = 0 := by decide
  intro hw
  have hm : op ∈ undocumentedOpcodes := by simpa [Instr.wellFormed] using hw
  have h0 := h op hm
  simp [Instr.operands, Instr.opcode, h0]

end Sys2Proof.Laws.EncodeLength
end

