-- ==== Sys2Proof/Tests/Slice0.lean ====
section
/-! SUPPORT. Checks of the model against the words, vectors and examples of the spec, and a witness for the hypotheses
of each statement. Expected results are those of 95_test_vectors.md, or worked from the rule named. -/

namespace Sys2Proof.Tests

open Sys2Proof.Machine Sys2Proof.Safety

/-! ## Well-formedness -/

/-- 0xA9 is LDA #imm, so it is no undocumented byte. -/
theorem test_illformed_undocumented : (Instr.undocumented 0xA9).wellFormed = false := by decide

/-- 0x0A is the documented ASL A. -/
theorem test_illformed_documented_absent : (Instr.undocumented 0x0A).wellFormed = false := by decide

theorem test_wellformed_undocumented : (Instr.undocumented 0x02).wellFormed = true := by decide

/-- 105 undocumented bytes (30_encoding.md R58), none twice. -/
theorem test_undocumented_count : undocumentedOpcodes.length = 105 ∧ undocumentedOpcodes.Nodup := by decide

/-! ## Decode: each mnemonic's forms, written out from the list of 30_encoding.md R57 -/

/-- The instruction of an opcode byte followed by 0x11 and 0x22. -/
def dec (op : Byte) : Instr := decode op 0x11 0x22

theorem test_decode_lda : [0xA9, 0xA5, 0xB5, 0xAD, 0xBD, 0xB9, 0xA1, 0xB1].map dec =
    [.ldaImm 0x11, .ldaZp 0x11, .ldaZpx 0x11, .ldaAbs 0x11 0x22, .ldaAbsx 0x11 0x22, .ldaAbsy 0x11 0x22,
     .ldaIndx 0x11, .ldaIndy 0x11] := by decide

theorem test_decode_ldx_ldy : [0xA2, 0xA6, 0xB6, 0xAE, 0xBE, 0xA0, 0xA4, 0xB4, 0xAC, 0xBC].map dec =
    [.ldxImm 0x11, .ldxZp 0x11, .ldxZpy 0x11, .ldxAbs 0x11 0x22, .ldxAbsy 0x11 0x22, .ldyImm 0x11,
     .ldyZp 0x11, .ldyZpx 0x11, .ldyAbs 0x11 0x22, .ldyAbsx 0x11 0x22] := by decide

theorem test_decode_stores :
    [0x85, 0x95, 0x8D, 0x9D, 0x99, 0x81, 0x91, 0x86, 0x96, 0x8E, 0x84, 0x94, 0x8C].map dec =
    [.staZp 0x11, .staZpx 0x11, .staAbs 0x11 0x22, .staAbsx 0x11 0x22, .staAbsy 0x11 0x22, .staIndx 0x11,
     .staIndy 0x11, .stxZp 0x11, .stxZpy 0x11, .stxAbs 0x11 0x22, .styZp 0x11, .styZpx 0x11,
     .styAbs 0x11 0x22] := by decide

theorem test_decode_compares :
    [0xC9, 0xC5, 0xD5, 0xCD, 0xDD, 0xD9, 0xC1, 0xD1, 0xE0, 0xE4, 0xEC, 0xC0, 0xC4, 0xCC].map dec =
    [.cmpImm 0x11, .cmpZp 0x11, .cmpZpx 0x11, .cmpAbs 0x11 0x22, .cmpAbsx 0x11 0x22, .cmpAbsy 0x11 0x22,
     .cmpIndx 0x11, .cmpIndy 0x11, .cpxImm 0x11, .cpxZp 0x11, .cpxAbs 0x11 0x22, .cpyImm 0x11, .cpyZp 0x11,
     .cpyAbs 0x11 0x22] := by decide

theorem test_decode_incdec :
    [0xE6, 0xF6, 0xEE, 0xFE, 0xC6, 0xD6, 0xCE, 0xDE, 0xE8, 0xC8, 0xCA, 0x88].map dec =
    [.incZp 0x11, .incZpx 0x11, .incAbs 0x11 0x22, .incAbsx 0x11 0x22, .decZp 0x11, .decZpx 0x11,
     .decAbs 0x11 0x22, .decAbsx 0x11 0x22, .inx, .iny, .dex, .dey] := by decide

theorem test_decode_and_ora :
    [0x29, 0x25, 0x35, 0x2D, 0x3D, 0x39, 0x21, 0x31, 0x09, 0x05, 0x15, 0x0D, 0x1D, 0x19, 0x01, 0x11].map dec =
    [.andImm 0x11, .andZp 0x11, .andZpx 0x11, .andAbs 0x11 0x22, .andAbsx 0x11 0x22, .andAbsy 0x11 0x22,
     .andIndx 0x11, .andIndy 0x11, .oraImm 0x11, .oraZp 0x11, .oraZpx 0x11, .oraAbs 0x11 0x22,
     .oraAbsx 0x11 0x22, .oraAbsy 0x11 0x22, .oraIndx 0x11, .oraIndy 0x11] := by decide

theorem test_decode_eor_lsr :
    [0x49, 0x45, 0x55, 0x4D, 0x5D, 0x59, 0x41, 0x51, 0x4A, 0x46, 0x56, 0x4E, 0x5E].map dec =
    [.eorImm 0x11, .eorZp 0x11, .eorZpx 0x11, .eorAbs 0x11 0x22, .eorAbsx 0x11 0x22, .eorAbsy 0x11 0x22,
     .eorIndx 0x11, .eorIndy 0x11, .lsrAcc, .lsrZp 0x11, .lsrZpx 0x11, .lsrAbs 0x11 0x22,
     .lsrAbsx 0x11 0x22] := by decide

theorem test_decode_implied :
    [0x48, 0x08, 0x68, 0x28, 0x18, 0x38, 0x58, 0x78, 0xB8, 0xD8, 0xF8, 0xAA, 0x8A, 0xA8, 0x98, 0xBA, 0x9A,
     0x00, 0xEA].map dec =
    [.pha, .php, .pla, .plp, .clc, .sec, .cli, .sei, .clv, .cld, .sed, .tax, .txa, .tay, .tya, .tsx, .txs,
     .brk, .nop] := by decide

theorem test_decode_jmp_adc : [0x4C, 0x6C, 0x69, 0x65, 0x75, 0x6D, 0x7D, 0x79, 0x61, 0x71].map dec =
    [.jmpAbs 0x11 0x22, .jmpInd 0x11 0x22, .adcImm 0x11, .adcZp 0x11, .adcZpx 0x11, .adcAbs 0x11 0x22,
     .adcAbsx 0x11 0x22, .adcAbsy 0x11 0x22, .adcIndx 0x11, .adcIndy 0x11] := by decide

/-- The documented bytes the core lacks (30_encoding.md R58): branches, calls, returns, ROL, ROR. -/
theorem test_decode_absent_flow_rotate :
    [0x10, 0x30, 0x50, 0x70, 0x90, 0xB0, 0xD0, 0xF0, 0x20, 0x60, 0x40, 0x2A, 0x26, 0x36, 0x2E, 0x3E, 0x6A,
     0x66, 0x76, 0x6E, 0x7E].map dec =
    [.bpl, .bmi, .bvc, .bvs, .bcc, .bcs, .bne, .beq, .jsr, .rts, .rti, .rolAcc, .rolZp, .rolZpx, .rolAbs,
     .rolAbsx, .rorAcc, .rorZp, .rorZpx, .rorAbs, .rorAbsx] := by decide

/-- The documented bytes the core lacks (30_encoding.md R58): SBC, ASL, BIT; and an undocumented one. -/
theorem test_decode_absent_arith :
    [0xE9, 0xE5, 0xF5, 0xED, 0xFD, 0xF9, 0xE1, 0xF1, 0x0A, 0x06, 0x16, 0x0E, 0x1E, 0x24, 0x2C, 0x80].map dec =
    [.sbcImm, .sbcZp, .sbcZpx, .sbcAbs, .sbcAbsx, .sbcAbsy, .sbcIndx, .sbcIndy, .aslAcc, .aslZp, .aslZpx,
     .aslAbs, .aslAbsx, .bitZp, .bitAbs, .undocumented 0x80] := by decide

/-- Too few bytes are refused by name. -/
theorem test_decode_truncated :
    decodeBytes [0xAD, 0x34] = .error (.truncated 0xAD) ∧ decodeBytes [] = .error .noBytes := by decide

/-- `AD 34 12` is LDA $1234, and `JMP ($0300)` is `6C 00 03` (40_addressing.md R78, R81). -/
theorem test_encode_words :
    encode (.ldaAbs 0x34 0x12) = [0xAD, 0x34, 0x12] ∧ encode (.jmpInd 0x00 0x03) = [0x6C, 0x00, 0x03] := by decide

theorem test_table_word :
    decodeTableWord 16 0x05A9 = some (.ldaImm 0x05) ∧ decodeTableWord 24 0x1234AD = some (.ldaAbs 0x34 0x12) ∧
    decodeTableWord 8 0xAD = some (.ldaAbs 0 0) ∧ decodeTableWord 8 0x20 = some .jsr := by decide

/-- The instruction placed at reset is the first one run. -/
theorem test_with_fetch_word :
    (fetchInstr (State.reset.withFetchWord 16 0x05A9) = .ldaImm 0x05) ∧
    (fetchInstr (State.reset.withFetchWord 8 0xFF) = .undocumented 0xFF) := by decide

/-! ## One step each, from 95_test_vectors.md -/

/-- The start state of a vector: `pc` = 0x8000 and the listed bytes. -/
def start (l : List (Word × Byte)) : State :=
  l.foldl (fun s p => memWrite p.1 p.2 s) { State.reset with pc := 0x8000 }

/-- The state after one step. -/
def after (s : State) : State :=
  match step s with
  | .next t => t
  | _ => s

/-- Z, N, `pc` after a step. -/
def znpc (s : State) : Bool × Bool × Word := ((after s).flagZ, (after s).flagN, (after s).pc)

theorem test_V_A3 :
    let s := { start [(0x8000, 0xB5), (0x8001, 0xC0), (0x0020, 0x11)] with x := 0x60 }
    ((after s).tl, (after s).th, (after s).acc) = (0x20, 0x00, 0x11) ∧ znpc s = (false, false, 0x8002) := by decide

theorem test_V_A4 :
    let s := { start [(0x8000, 0xB6), (0x8001, 0xFF), (0x0000, 0x22)] with y := 0x01 }
    ((after s).tl, (after s).x) = (0x00, 0x22) ∧ znpc s = (false, false, 0x8002) := by decide

theorem test_V_A7 :
    let s := { start [(0x8000, 0xBD), (0x8001, 0xFF), (0x8002, 0xFF), (0x0001, 0x05)] with x := 0x02 }
    ((after s).tl, (after s).th, (after s).acc) = (0x01, 0x00, 0x05) ∧ znpc s = (false, false, 0x8003) := by decide

theorem test_V_A8 :
    let s := { start [(0x8000, 0xB9), (0x8002, 0x02), (0x02FF, 0x80)] with y := 0xFF }
    (after s).acc = 0x80 ∧ znpc s = (false, true, 0x8003) := by decide

theorem test_V_A10 :
    let s := start [(0x8000, 0x6C), (0x8001, 0xFF), (0x8002, 0x12), (0x1200, 0x40), (0x1300, 0x90)]
    ((after s).tl, (after s).th, (after s).pc) = (0x00, 0x90, 0x9000) := by decide

theorem test_V_A11 :
    (after (start [(0x8000, 0x6C), (0x8001, 0xFF), (0x8002, 0xFF), (0x0000, 0x80)])).pc = 0x8000 := by decide

theorem test_V_A14 :
    (after (start [(0x8000, 0xA1), (0x8001, 0xFF), (0x0000, 0x04), (0x0100, 0x07), (0x0400, 0x33)])).acc
      = 0x33 := by decide

theorem test_V_A15 :
    let s := { start [(0x8000, 0xB1), (0x8001, 0x66), (0x0066, 0x55), (0x0067, 0x66), (0x6687, 0x42)] with y := 0x32 }
    ((after s).tl, (after s).th, (after s).acc) = (0x87, 0x66, 0x42) := by decide

theorem test_V_A17 :
    let s := { start [(0x8000, 0xB1), (0x8001, 0x40), (0x0010, 0x81), (0x0040, 0xF0), (0x0041, 0xFF)] with y := 0x20 }
    (after s).acc = 0x81 ∧ znpc s = (false, true, 0x8002) := by decide

theorem test_V_A19 :
    let s := { start [(0xFFFF, 0xA9), (0x0000, 0x07)] with pc := 0xFFFF }
    (after s).acc = 0x07 ∧ znpc s = (false, false, 0x0001) := by decide

theorem test_V_S2 :
    let s := { start [(0x8000, 0x91), (0x8001, 0x20), (0x0021, 0x03)] with acc := 0x99, y := 0x05 }
    memRead (after s) 0x0305 = 0x99 ∧ (after s).pc = 0x8002 := by decide

theorem test_V_S4 :
    let s := { start [(0x8000, 0x96), (0x8001, 0xFF)] with x := 0x07, y := 0x02 }
    memRead (after s) 0x0001 = 0x07 := by decide

theorem test_V_S5 :
    let s := { start [(0x8000, 0x94), (0x8001, 0xFF)] with x := 0x01, y := 0x80 }
    memRead (after s) 0x0000 = 0x80 := by decide

theorem test_V_S6 :
    memRead (after { start [(0x8000, 0x8D), (0x8002, 0xC0)] with acc := 0x5A }) 0xC000 = 0x5A := by decide

/-- V-C1, V-C3, V-C4, V-C5: CMP # with the given accumulator. -/
theorem test_V_C :
    let f := fun (a v : Byte) =>
      let t := after { start [(0x8000, 0xC9), (0x8001, v)] with acc := a }
      (t.flagC, t.flagZ, t.flagN, t.acc)
    f 0x02 0x01 = (true, false, false, 0x02) ∧ f 0x00 0x01 = (false, false, true, 0x00) ∧
    f 0x80 0x00 = (true, false, true, 0x80) ∧ f 0x01 0x81 = (false, false, true, 0x01) := by decide

theorem test_V_C9_C11 :
    (let t := after { start [(0x8000, 0xE0), (0x8001, 0x20)] with x := 0x10 }
     (t.flagC, t.flagZ, t.flagN) = (false, false, true)) ∧
    (let t := after { start [(0x8000, 0xEC), (0x8001, 0x34), (0x8002, 0x12), (0x1234, 0x7F)] with x := 0xFF }
     (t.flagC, t.flagZ, t.flagN) = (true, false, true)) := by decide

theorem test_V_I1 :
    let s := start [(0x8000, 0xE6), (0x8001, 0x10), (0x0010, 0xFF)]
    memRead (after s) 0x0010 = 0x00 ∧ znpc s = (true, false, 0x8002) := by decide

theorem test_V_I3 :
    let s := start [(0x8000, 0xC6), (0x8001, 0x10)]
    memRead (after s) 0x0010 = 0xFF ∧ znpc s = (false, true, 0x8002) := by decide

theorem test_V_I7 :
    let s := { start [(0x8000, 0xE8)] with x := 0xFF, flagC := true }
    ((after s).x, (after s).flagC) = (0x00, true) ∧ znpc s = (true, false, 0x8001) := by decide

theorem test_V_I10 :
    let s := { start [(0x8000, 0x88)] with y := 0x01 }
    (after s).y = 0x00 ∧ znpc s = (true, false, 0x8001) := by decide

theorem test_V_G1_G4_G6 :
    (after { start [(0x8000, 0x29), (0x8001, 0x3C)] with acc := 0xF0 }).acc = 0x30 ∧
    (after { start [(0x8000, 0x09), (0x8001, 0x80)] with acc := 0x01 }).acc = 0x81 ∧
    (after { start [(0x8000, 0x49), (0x8001, 0x0F)] with acc := 0xFF }).acc = 0xF0 := by decide

theorem test_V_H4 :
    let s := { start [(0x8000, 0x4A)] with acc := 0xFF }
    ((after s).acc, (after s).flagC) = (0x7F, true) ∧ znpc s = (false, false, 0x8001) := by decide

theorem test_V_H6 :
    let s := { start [(0x8000, 0x5E), (0x8002, 0x03), (0x0302, 0x81)] with x := 0x02 }
    memRead (after s) 0x0302 = 0x40 ∧ (after s).flagC = true ∧ (after s).acc = 0x00 := by decide

theorem test_V_K2 :
    let s := { start [(0x8000, 0x48)] with acc := 0x17, sp := 0x00 }
    memRead (after s) 0x0100 = 0x17 ∧ (after s).sp = 0xFF := by decide

theorem test_V_K4 :
    let s := { start [(0x8000, 0x68), (0x0100, 0x80)] with sp := 0xFF }
    ((after s).acc, (after s).sp) = (0x80, 0x00) ∧ znpc s = (false, true, 0x8001) := by decide

/-- V-K5: the byte PHP pushes, for either value of STATUS_BIT5. -/
theorem test_V_K5 :
    pack { State.reset with flagN := true, flagI := true, flagC := true } = 0x85 ||| bitAt Config.statusBit5 5 := by
  simp only [pack]
  cases Config.statusBit5 <;> decide

theorem test_V_K6 :
    let t := after { start [(0x8000, 0x28), (0x01FF, 0xC3)] with sp := 0xFE, flagI := true, flagB := true }
    (t.flagN, t.flagV, t.flagB, t.flagD) = (true, true, false, false) ∧
    (t.flagI, t.flagZ, t.flagC, t.sp) = (false, true, true, 0xFF) := by decide

theorem test_V_F :
    (after { start [(0x8000, 0x18)] with flagC := true }).flagC = false ∧
    (after (start [(0x8000, 0x38)])).flagC = true ∧ (after (start [(0x8000, 0x78)])).flagI = true ∧
    (after { start [(0x8000, 0x58)] with flagI := true }).flagI = false ∧
    (after { start [(0x8000, 0xB8)] with flagV := true }).flagV = false ∧
    (after { start [(0x8000, 0xD8)] with flagD := true }).flagD = false ∧
    (after (start [(0x8000, 0xF8)])).flagD = true := by decide

theorem test_V_T5 :
    let s := { start [(0x8000, 0xBA)] with sp := 0xFD }
    (after s).x = 0xFD ∧ znpc s = (false, true, 0x8001) := by decide

theorem test_V_T7 :
    let s := { start [(0x8000, 0x9A)] with x := 0xFF, flagZ := true }
    (after s).sp = 0xFF ∧ znpc s = (true, false, 0x8001) := by decide

theorem test_V_J4 :
    let s := { start [(0x8005, 0x00)] with pc := 0x8005, sp := 0x40 }
    ((after s).flagB, (after s).pc, (after s).sp, (after s).mem) = (true, 0x8006, 0x40, s.mem) := by decide

/-- V-D3, V-D4, V-D6: ADC # in binary mode. V is free, so it is not tested. -/
theorem test_V_D :
    let f := fun (a v : Byte) (c : Bool) =>
      let t := after { start [(0x8000, 0x69), (0x8001, v)] with acc := a, flagC := c }
      (t.acc, t.flagC, t.flagZ, t.flagN, t.draws)
    f 0xFF 0xFF true = (0xFF, true, false, true, 1) ∧ f 0x80 0x80 false = (0x00, true, true, false, 1) ∧
    f 0x00 0x00 true = (0x01, false, false, false, 1) := by decide

/-- V-D8: only `pc` is fixed when D = 1. -/
theorem test_V_D8 :
    (after { start [(0x8000, 0x69), (0x8001, 0x01)] with acc := 0x09, flagD := true }).pc = 0x8002 := by decide

theorem test_V_U2 :
    let s := { start [(0x8000, 0xE9), (0x8001, 0x01)] with acc := 0x10, flagC := true }
    step s = .next { s with ir := 0xE9, pc := 0x8001, faultRecord := [(0x8000, 0xE9)] } := rfl

theorem test_V_U6 :
    let s := { start [(0xFFFF, 0xFF)] with pc := 0xFFFF }
    ((after s).pc, (after s).ir, (after s).faultRecord) = (0x0000, 0xFF, [(0xFFFF, 0xFF)]) ∧
    stepReport s = .unknownOpcode 0xFF := by decide

theorem test_V_W6 : (hostReset (start [(0xFFFC, 0xCD), (0xFFFD, 0xAB)])).pc = 0xABCD := by decide

theorem test_V_W10 : loadProgram [] 3 State.reset = .refused .loadProgramArguments := by simp [loadProgram]

/-- V-W14 and R151: a second `initialize()` changes nothing; a step before the first is refused, and one after it runs. -/
theorem test_V_W14 :
    let s := { start [(0x8000, 0xE8)] with x := 0x04, initialized := false }
    hostInit (hostInit s) = hostInit s ∧ step s = .refused .notInitialized ∧ (after (hostInit s)).x = 0x05 := ⟨rfl, rfl, rfl⟩

/-- V-W12: `step()` does not test B, and `run()` before `initialize()` is refused with B = 1 too. -/
theorem test_V_W12 :
    let s := { start [(0x8000, 0xE8)] with x := 0x04, flagB := true }
    ((after s).x, (after s).pc) = (0x05, 0x8001) ∧
    hostRun 3 { s with initialized := false } = .refused .notInitialized := ⟨rfl, rfl⟩

/-- A store by an instruction into its own operand byte does not change what it does (20_memory.md R50). -/
theorem test_store_into_own_operand :
    let s := { start [(0x8000, 0x8D), (0x8001, 0x01), (0x8002, 0x80)] with acc := 0x77 }
    memRead (after s) 0x8001 = 0x77 ∧ (after s).pc = 0x8003 := by decide

/-! ## Witnesses: a state and operands that meet the hypotheses of each statement that has any -/

/-- One 16 KiB block of zeros. -/
def block : List Byte := List.replicate 16384 0

theorem witness_reset_canonical : Canonical State.reset := by decide

theorem witness_load_one_block : ∃ t, loadProgram block 1 State.reset = .next t :=
  ⟨_, if_pos ⟨rfl, List.length_replicate⟩⟩

theorem witness_block_lengths : block.length = 16384 ∧ (block ++ block).length = 32768 :=
  ⟨List.length_replicate, by rw [List.length_append, block, List.length_replicate]⟩

theorem witness_load_refused : ¬ (0 = 1 ∧ block.length = 16384) ∧ ¬ (0 = 2 ∧ block.length = 32768) := by
  constructor <;> (intro h; exact absurd h.1 (by decide))

/-- StepKeepsMemoryCanonical, StepAdvancesPcByLength (not a jump), FlagFrame, RegisterFrame: the first step from reset. -/
theorem witness_step_from_reset :
    Canonical State.reset ∧ fetchInstr State.reset = .brk ∧
    step State.reset = .next { State.reset with pc := 0x0001, flagB := true } := ⟨rfl, rfl, rfl⟩

/-- StepAdvancesPcByLength (a jump). -/
theorem witness_jump :
    let s := start [(0x8000, 0x4C), (0x8002, 0x90)]
    isJump (fetchInstr s) = true ∧ ∃ t, step s = .next t := ⟨rfl, _, rfl⟩

theorem witness_decodes_with_operands :
    decodeBytes [0xA9, 0x05, 0x18] = .ok (.ldaImm 0x05, [0x18]) ∧ (Instr.ldaImm 0x05).wellFormed = true := by decide

/-- StepRunsTheDecodedInstruction. -/
theorem witness_step_decodes :
    let s := start [(0x8000, 0xA9), (0x8001, 0x05)]
    s.initialized = true ∧
    decodeBytes [memRead s s.pc, memRead s (s.pc + 1), memRead s (s.pc + 2)] = .ok (.ldaImm 0x05, [0x00]) := by decide

/-- UnknownOpcodeChangesIrPcAndRecordOnly and RecordGrowsOnlyByUnknownOpcodes: an absent and a present byte at `pc`. -/
theorem witness_absent_and_present :
    let s := start [(0x8000, 0xFF)]
    let t := start [(0x8000, 0xFE)]
    (s.initialized = true ∧ (tableEntry (memRead s s.pc)).length = 0) ∧
    t.initialized = true ∧ (tableEntry (memRead t t.pc)).length ≠ 0 := by decide

/-- OnlyBrkOrPlpSetsBreak: PLP pulling bit 4. -/
theorem witness_plp_sets_break :
    let s := { start [(0x8000, 0x28), (0x01FF, 0x10)] with sp := 0xFE }
    s.flagB = false ∧ (after s).flagB = true ∧ fetchInstr s = .plp ∧ (stackTop s).getLsbD 4 = true := by decide

/-- InterruptDisableAffectsNothingElse. -/
theorem witness_not_php : State.reset.initialized = true ∧ fetchInstr State.reset ≠ .php := by decide

/-- OperandPairIsNeverReadAcrossSteps: an instruction with operand bytes. -/
theorem witness_has_operands :
    let s := start [(0x8000, 0xA9)]
    s.initialized = true ∧ (fetchInstr s).operands ≠ [] := by decide

/-- MemoryFrame and StoredByteReadsBack: a store, a push at each end of the stack page, and a form that stores nothing. -/
theorem witness_store_addresses :
    storeAddr (.staZp 0xFF) State.reset = some 0x00FF ∧ storeAddr .pha State.reset = some 0x0100 ∧
    storeAddr .php { State.reset with sp := 0xFF } = some 0x01FF ∧ storeAddr .lsrAcc State.reset = none ∧
    ∃ t, exec (.staZp 0xFF) State.reset = .next t := ⟨rfl, rfl, rfl, rfl, _, rfl⟩

/-- EveryStepCompletes, StepKeepsTheTableBuilt; InitializePrecedesEveryStep's state without the mark. -/
theorem witness_initialized :
    State.reset.initialized = true ∧ (∃ t, step State.reset = .next t) ∧
    { State.reset with initialized := false }.initialized = false := ⟨rfl, ⟨_, rfl⟩, rfl⟩

/-- StepNeverClearsTheRecord: a step from B = 1, with a record, at an absent opcode. -/
theorem witness_record_grows :
    let s := { start [(0x8000, 0xFF)] with flagB := true, faultRecord := [(0x1234, 0x02)] }
    ∃ t, step s = .next t ∧ t.faultRecord = [(0x1234, 0x02), (0x8000, 0xFF)] := ⟨_, rfl, rfl⟩

/-- RunStopsOnlyAtBreak, that a run goes on from a step: from reset, and through a step that leaves B = 0. -/
theorem witness_run_goes_on :
    let s := start [(0x8000, 0xE8), (0x8001, 0x00)]
    (State.reset.flagB = false ∧ ∃ t, step State.reset = .next t) ∧
    s.flagB = false ∧ ∃ t, step s = .next t ∧ t.flagB = false := ⟨⟨rfl, _, rfl⟩, rfl, _, rfl, rfl⟩

/-- RunStopsOnlyAtBreak and RunNeverClearsTheRecord: a run that returned, one still running, one that runs no step. -/
theorem witness_runs :
    (∃ t, hostRun 1 State.reset = .next (.returned t)) ∧ (∃ t, hostRun 0 State.reset = .next (.running t)) ∧
    hostRun 5 { State.reset with flagB := true } = .next (.returned { State.reset with flagB := true }) :=
  ⟨⟨_, rfl⟩, ⟨_, rfl⟩, rfl⟩

/-- AdcBinaryAddsWithCarry and AdcDecimalIsDrawn. -/
theorem witness_decimal_flag : State.reset.flagD = false ∧ { State.reset with flagD := true }.flagD = true := by decide

/-- A launch state (70_reset_and_hazards.md R160). -/
theorem witness_launch : Launch State.reset := by decide

end Sys2Proof.Tests
end

section
/-! The obligations on the canonical flag rules (00_scope.md). -/

namespace Sys2Proof.Proofs

/-- Settles O34: `setZN` is, by its definition, the update of these two fields alone (00_scope.md R17). -/
theorem zeroAndNegativeFollowTheResult : Obligations.ZeroAndNegativeFollowTheResult := by
  unfold Obligations.ZeroAndNegativeFollowTheResult
  intro v s
  rfl

end Sys2Proof.Proofs
end

section
/-! Resolve and Execute (30_encoding.md R62). Every instruction runs as the resolver of its addressing mode followed by
its executor (`exec_eq`). What a resolver may write (40_addressing.md R68) and what an executor may write (30_encoding.md
R63, the "written by" columns of 10_state.md R19, R22, R23) are then said once each: `Mode.exists_resolve_eq` and
`execute_eq_framed`. -/

namespace Sys2Proof.Proofs

open Sys2Proof.Machine Sys2Proof.Safety

/-- An addressing mode with its operand bytes (40_addressing.md R74-R84); `none` is for the forms without a resolver:
implied, accumulator (R72, R73) and the absent entries. -/
inductive Mode where
  | none
  | imm (b : Byte)
  | zp (b : Byte)
  | zpx (b : Byte)
  | zpy (b : Byte)
  | abs (lo hi : Byte)
  | absx (lo hi : Byte)
  | absy (lo hi : Byte)
  | ind (lo hi : Byte)
  | indx (b : Byte)
  | indy (b : Byte)

/-- The operand bytes of a mode, in address order (30_encoding.md R51). -/
def Mode.operands : Mode → List Byte
  | .none => []
  | .imm b | .zp b | .zpx b | .zpy b | .indx b | .indy b => [b]
  | .abs lo hi | .absx lo hi | .absy lo hi | .ind lo hi => [lo, hi]

/-- The resolver of a mode; a form that has none leaves the state as it is. -/
def Mode.resolve (s : State) : Mode → State
  | .none => s
  | .imm b => resolveImm b s
  | .zp b => resolveZp b s
  | .zpx b => resolveZpx b s
  | .zpy b => resolveZpy b s
  | .abs lo hi => resolveAbs lo hi s
  | .absx lo hi => resolveAbsx lo hi s
  | .absy lo hi => resolveAbsy lo hi s
  | .ind lo hi => resolveInd lo hi s
  | .indx b => resolveIndx b s
  | .indy b => resolveIndy b s

/-- The operand value in a resolved state (40_addressing.md R85): `tl` for an immediate, else the byte at EA. -/
def Mode.value (r : State) : Mode → Byte
  | .imm _ => r.tl
  | _ => memRead r (effAddr r)

/-- The addressing mode of an instruction (30_encoding.md R57). -/
def modeOf (i : Instr) : Mode :=
  match i with
  | .ldaImm b | .ldxImm b | .ldyImm b | .cmpImm b | .cpxImm b | .cpyImm b | .andImm b | .oraImm b | .eorImm b
  | .adcImm b => .imm b
  | .ldaZp b | .ldxZp b | .ldyZp b | .staZp b | .stxZp b | .styZp b | .cmpZp b | .cpxZp b | .cpyZp b | .incZp b
  | .decZp b | .andZp b | .oraZp b | .eorZp b | .lsrZp b | .adcZp b => .zp b
  | .ldaZpx b | .ldyZpx b | .staZpx b | .styZpx b | .cmpZpx b | .incZpx b | .decZpx b | .andZpx b | .oraZpx b
  | .eorZpx b | .lsrZpx b | .adcZpx b => .zpx b
  | .ldxZpy b | .stxZpy b => .zpy b
  | .ldaAbs lo hi | .ldxAbs lo hi | .ldyAbs lo hi | .staAbs lo hi | .stxAbs lo hi | .styAbs lo hi | .cmpAbs lo hi
  | .cpxAbs lo hi | .cpyAbs lo hi | .incAbs lo hi | .decAbs lo hi | .andAbs lo hi | .oraAbs lo hi | .eorAbs lo hi
  | .lsrAbs lo hi | .jmpAbs lo hi | .adcAbs lo hi => .abs lo hi
  | .ldaAbsx lo hi | .ldyAbsx lo hi | .staAbsx lo hi | .cmpAbsx lo hi | .incAbsx lo hi | .decAbsx lo hi
  | .andAbsx lo hi | .oraAbsx lo hi | .eorAbsx lo hi | .lsrAbsx lo hi | .adcAbsx lo hi => .absx lo hi
  | .ldaAbsy lo hi | .ldxAbsy lo hi | .staAbsy lo hi | .cmpAbsy lo hi | .andAbsy lo hi | .oraAbsy lo hi
  | .eorAbsy lo hi | .adcAbsy lo hi => .absy lo hi
  | .jmpInd lo hi => .ind lo hi
  | .ldaIndx b | .staIndx b | .cmpIndx b | .andIndx b | .oraIndx b | .eorIndx b | .adcIndx b => .indx b
  | .ldaIndy b | .staIndy b | .cmpIndy b | .andIndy b | .oraIndy b | .eorIndy b | .adcIndy b => .indy b
  | _ => .none

/-- The executor of an instruction, on the resolved state (30_encoding.md R62, R64). An absent entry reports its opcode
(60_exceptions.md R134, R136). -/
def execute (i : Instr) (r : State) : State :=
  let v := (modeOf i).value r
  match i with
  | .ldaImm _ | .ldaZp _ | .ldaZpx _ | .ldaAbs _ _ | .ldaAbsx _ _ | .ldaAbsy _ _ | .ldaIndx _ | .ldaIndy _ => loadAcc v r
  | .ldxImm _ | .ldxZp _ | .ldxZpy _ | .ldxAbs _ _ | .ldxAbsy _ _ => loadX v r
  | .ldyImm _ | .ldyZp _ | .ldyZpx _ | .ldyAbs _ _ | .ldyAbsx _ _ => loadY v r
  | .staZp _ | .staZpx _ | .staAbs _ _ | .staAbsx _ _ | .staAbsy _ _ | .staIndx _ | .staIndy _ => storeAcc r
  | .stxZp _ | .stxZpy _ | .stxAbs _ _ => storeX r
  | .styZp _ | .styZpx _ | .styAbs _ _ => storeY r
  | .cmpImm _ | .cmpZp _ | .cmpZpx _ | .cmpAbs _ _ | .cmpAbsx _ _ | .cmpAbsy _ _ | .cmpIndx _ | .cmpIndy _ =>
    compareAcc v r
  | .cpxImm _ | .cpxZp _ | .cpxAbs _ _ => compareX v r
  | .cpyImm _ | .cpyZp _ | .cpyAbs _ _ => compareY v r
  | .incZp _ | .incZpx _ | .incAbs _ _ | .incAbsx _ _ => stepMem (· + 1) r
  | .decZp _ | .decZpx _ | .decAbs _ _ | .decAbsx _ _ => stepMem (· - 1) r
  | .inx => setZN (r.x + 1) { r with x := r.x + 1 }
  | .iny => setZN (r.y + 1) { r with y := r.y + 1 }
  | .dex => setZN (r.x - 1) { r with x := r.x - 1 }
  | .dey => setZN (r.y - 1) { r with y := r.y - 1 }
  | .andImm _ | .andZp _ | .andZpx _ | .andAbs _ _ | .andAbsx _ _ | .andAbsy _ _ | .andIndx _ | .andIndy _ => andAcc v r
  | .oraImm _ | .oraZp _ | .oraZpx _ | .oraAbs _ _ | .oraAbsx _ _ | .oraAbsy _ _ | .oraIndx _ | .oraIndy _ => oraAcc v r
  | .eorImm _ | .eorZp _ | .eorZpx _ | .eorAbs _ _ | .eorAbsx _ _ | .eorAbsy _ _ | .eorIndx _ | .eorIndy _ => eorAcc v r
  | .lsrAcc => shiftFlags r.acc { r with acc := r.acc >>> 1 }
  | .lsrZp _ | .lsrZpx _ | .lsrAbs _ _ | .lsrAbsx _ _ => shiftMem r
  | .pha => push r.acc r
  | .php => push (pack r) r
  | .pla => setZN (pulled r) { pull r with acc := pulled r }
  | .plp => unpack (pulled r) (pull r)
  | .clc => { r with flagC := false }
  | .sec => { r with flagC := true }
  | .cld => { r with flagD := false }
  | .sed => { r with flagD := true }
  | .cli => { r with flagI := false }
  | .sei => { r with flagI := true }
  | .clv => { r with flagV := false }
  | .tax => setZN r.acc { r with x := r.acc }
  | .txa => setZN r.x { r with acc := r.x }
  | .tay => setZN r.acc { r with y := r.acc }
  | .tya => setZN r.y { r with acc := r.y }
  | .tsx => setZN r.sp { r with x := r.sp }
  | .txs => { r with sp := r.x }
  | .jmpAbs _ _ | .jmpInd _ _ => jump r
  | .brk => { r with flagB := true }
  | .nop => r
  | .adcImm _ | .adcZp _ | .adcZpx _ | .adcAbs _ _ | .adcAbsx _ _ | .adcAbsy _ _ | .adcIndx _ | .adcIndy _ => adcAcc v r
  | _ => { r with faultRecord := r.faultRecord ++ [(r.pc - 1, i.opcode)] }

/-- The state with another operand pair (10_state.md R28). -/
def setPair (lo hi : Byte) (s : State) : State := { s with tl := lo, th := hi }

/-! ## Resolve -/

/-- The operand bytes of an instruction are its mode's. -/
theorem operands_modeOf (i : Instr) : (modeOf i).operands = i.operands := by
  cases i <;> rfl

/-- A resolver advances `pc` past the operand bytes and writes nothing but `tl` and `th` besides (40_addressing.md R68);
without operand bytes it does not write these either. -/
theorem Mode.exists_resolve_eq (m : Mode) (s : State) : ∃ lo hi : Byte,
    m.resolve s = { s with pc := s.pc + BitVec.ofNat 16 m.operands.length, tl := lo, th := hi } ∧
    (m.operands = [] → lo = s.tl ∧ hi = s.th) := by
  cases m
  case none => exact ⟨s.tl, s.th, by simp [resolve, operands], fun _ => ⟨rfl, rfl⟩⟩
  all_goals exact ⟨_, _, rfl, nofun⟩

/-- Without operand bytes there is nothing to resolve (40_addressing.md R72, R73). -/
theorem Mode.resolve_of_operands_eq_nil {m : Mode} (h : m.operands = []) (s : State) : m.resolve s = s := by
  cases m
  case none => rfl
  all_goals cases h

/-- With operand bytes the resolver overwrites the pair and does not read it (40_addressing.md R68). -/
theorem Mode.resolve_setPair {m : Mode} (h : m.operands ≠ []) (lo hi : Byte) (s : State) :
    m.resolve (setPair lo hi s) = m.resolve s := by
  cases m
  case none => exact absurd rfl h
  all_goals rfl

/-! ## Execute -/

/-- Resolve, then Execute (30_encoding.md R62): every instruction completes, as its executor on its resolved state. -/
theorem exec_eq (i : Instr) (s : State) : exec i s = .next (execute i ((modeOf i).resolve s)) := by
  cases i <;> rfl

/-- `t` in the places the spec's tables let the executor of `i` write (10_state.md R19, R22, R23, R136), the effective
address in `pc` under JMP (46_control_system.md R126), and `r` everywhere else. -/
def framed (i : Instr) (r t : State) : State where
  pc := bif isJump i then effAddr r else r.pc
  sp := bif writesSp i then t.sp else r.sp
  acc := bif writesAcc i then t.acc else r.acc
  x := bif writesX i then t.x else r.x
  y := bif writesY i then t.y else r.y
  flagC := bif writesC i then t.flagC else r.flagC
  flagZ := bif writesZN i then t.flagZ else r.flagZ
  flagI := bif writesI i then t.flagI else r.flagI
  flagD := bif writesD i then t.flagD else r.flagD
  flagB := bif writesB i then t.flagB else r.flagB
  flagV := bif writesV i then t.flagV else r.flagV
  flagN := bif writesZN i then t.flagN else r.flagN
  ir := r.ir
  tl := r.tl
  th := r.th
  mem := bif (storeAddr i r).isSome then t.mem else r.mem
  initialized := r.initialized
  faultRecord := bif i.absentOpcode.isSome then t.faultRecord else r.faultRecord
  draws := bif isAdc i then t.draws else r.draws

/-- ADC writes the same places whether D is set or not (47_arithmetic.md R131, R132). -/
theorem adcAcc_eq (v : Byte) (r : State) : adcAcc v r = { r with
    acc := (adcAcc v r).acc, flagC := (adcAcc v r).flagC, flagZ := (adcAcc v r).flagZ
    flagV := (adcAcc v r).flagV, flagN := (adcAcc v r).flagN, draws := (adcAcc v r).draws } := by
  unfold adcAcc
  split <;> rfl

/-- An executor writes only where the tables let it (30_encoding.md R63). -/
theorem execute_eq_framed (i : Instr) (r : State) : execute i r = framed i r (execute i r) := by
  cases i
  case adcImm | adcZp | adcZpx | adcAbs | adcAbsx | adcAbsy | adcIndx | adcIndy => exact adcAcc_eq _ r
  all_goals rfl

/-- The frame of a whole instruction: the resolver's writes, then the executor's. -/
theorem exec_framed {i : Instr} {s t : State} (h : exec i s = .next t) : ∃ lo hi : Byte,
    t = framed i { s with pc := s.pc + BitVec.ofNat 16 i.operands.length, tl := lo, th := hi } t ∧
    (i.operands = [] → lo = s.tl ∧ hi = s.th) := by
  rw [exec_eq] at h
  cases h
  obtain ⟨lo, hi, hres, hpair⟩ := (modeOf i).exists_resolve_eq s
  rw [operands_modeOf] at hres hpair
  rw [hres]
  exact ⟨lo, hi, execute_eq_framed i _, hpair⟩

/-- A place outside the table keeps its value. -/
theorem eq_of_not_written {α : Type} {w : Bool} {new old : α} (h : new = bif w then new else old) (hw : w = false) :
    new = old := by
  rwa [hw] at h

/-- An executor without operand bytes reads neither `tl` nor `th` and leaves both (10_state.md R29). -/
theorem execute_setPair {i : Instr} (h : i.operands = []) (lo hi : Byte) (r : State) :
    execute i (setPair lo hi r) = setPair lo hi (execute i r) := by
  cases i <;> cases h <;> rfl

/-- A pair left over from before Resolve is overwritten, or else carried along unread (10_state.md R29). -/
theorem execute_resolve_setPair (i : Instr) (lo hi : Byte) (s : State) :
    execute i ((modeOf i).resolve (setPair lo hi s)) =
      if i.operands = [] then setPair lo hi (execute i ((modeOf i).resolve s))
      else execute i ((modeOf i).resolve s) := by
  have hops := operands_modeOf i
  split
  next h => simp only [Mode.resolve_of_operands_eq_nil (hops.trans h), execute_setPair h]
  next h => rw [Mode.resolve_setPair (by rwa [hops])]

/-- Once the opcode table is built, a step is Fetch, Resolve, Execute (30_encoding.md R62). -/
theorem step_eq {s : State} (h : s.initialized = true) :
    step s = .next (execute (fetchInstr s) ((modeOf (fetchInstr s)).resolve (fetchLatch s))) :=
  (step_of_initialized h).trans (exec_eq _ _)

end Sys2Proof.Proofs
end

section
/-! The obligations on the state (10_state.md): the registers, the flags, the operand pair, the status byte and reset. -/

namespace Sys2Proof.Proofs

open Sys2Proof.Machine Sys2Proof.Safety

/-- Settles O20: Fetch does not read the pair, and by `execute_resolve_setPair` neither do Resolve and Execute. -/
theorem operandPairIsNeverReadAcrossSteps : Obligations.OperandPairIsNeverReadAcrossSteps := by
  unfold Obligations.OperandPairIsNeverReadAcrossSteps
  intro s lo hi hs
  have hstep : step (setPair lo hi s) = _ := step_eq hs
  refine ⟨_, _, step_eq hs, hstep.trans (congrArg _ (execute_resolve_setPair _ lo hi (fetchLatch s))), ?_⟩
  split
  next hnil => exact ⟨rfl, fun h => absurd hnil h⟩
  next => exact ⟨rfl, fun _ => rfl⟩

/-- Bit `j` of the byte that holds a flag at bit `i`. -/
theorem getLsbD_bitAt (b : Bool) (i : Nat) {j : Nat} (hj : j < 8) : (bitAt b i).getLsbD j = (decide (j = i) && b) := by
  rcases Nat.lt_trichotomy j i with h | rfl | h
  · simp [bitAt, h, Nat.ne_of_lt h]
  · simp [bitAt, hj]
  · have : j - i ≠ 0 := by omega
    simp [bitAt, hj, Nat.ne_of_gt h, this]

/-- The packed byte, bit by bit (10_state.md R24). -/
theorem getLsbD_pack (s : State) :
    (pack s).getLsbD 7 = s.flagN ∧ (pack s).getLsbD 6 = s.flagV ∧ (pack s).getLsbD 5 = Config.statusBit5 ∧
    (pack s).getLsbD 4 = s.flagB ∧ (pack s).getLsbD 3 = s.flagD ∧ (pack s).getLsbD 2 = s.flagI ∧
    (pack s).getLsbD 1 = s.flagZ ∧ (pack s).getLsbD 0 = s.flagC := by
  simp [pack, getLsbD_bitAt, -BitVec.getLsbD_eq_getElem]

/-- Unpacking the packed byte changes no flag (10_state.md R24, R25). -/
theorem unpack_pack (s : State) : unpack (pack s) s = s := by
  obtain ⟨hN, hV, -, hB, hD, hI, hZ, hC⟩ := getLsbD_pack s
  simp only [unpack, hN, hV, hB, hD, hI, hZ, hC]

/-- Settles O9: the bits of `pack`, the definition of `unpack`, and that one undoes the other. -/
theorem statusByteRoundTrips : Obligations.StatusByteRoundTrips := by
  unfold Obligations.StatusByteRoundTrips
  exact ⟨getLsbD_pack, fun _ _ => rfl, unpack_pack⟩

/-- Settles O16: Fetch takes one byte, the resolver the operand bytes, and of the executors only JMP writes `pc`. -/
theorem stepAdvancesPcByLength : Obligations.StepAdvancesPcByLength := by
  unfold Obligations.StepAdvancesPcByLength
  intro s t h
  obtain ⟨lo, hi, hframe, -⟩ := exec_framed (step_next h).2
  have hpc := congrArg State.pc hframe
  have htl : t.tl = lo := congrArg State.tl hframe
  have hth : t.th = hi := congrArg State.th hframe
  constructor <;> intro hj
  · simp only [framed, hj, cond_false, fetchLatch_pc] at hpc
    rw [hpc, encode, List.length_cons, Nat.add_comm, BitVec.ofNat_add, BitVec.add_assoc]
    rfl
  · simp only [framed, hj, cond_true] at hpc
    rw [hpc, htl, hth]
    rfl

/-- Settles O24: the register fields of `exec_framed`. -/
theorem registerFrame : Obligations.RegisterFrame := by
  unfold Obligations.RegisterFrame
  intro i s t h
  obtain ⟨lo, hi, hframe, hpair⟩ := exec_framed h
  have htl : t.tl = lo := congrArg State.tl hframe
  have hth : t.th = hi := congrArg State.th hframe
  exact ⟨(congrArg State.ir hframe :), (congrArg State.initialized hframe :),
    eq_of_not_written (congrArg State.acc hframe), eq_of_not_written (congrArg State.x hframe),
    eq_of_not_written (congrArg State.y hframe), eq_of_not_written (congrArg State.sp hframe),
    fun hops => htl ▸ hth ▸ hpair hops,
    fun habs => eq_of_not_written (congrArg State.faultRecord hframe) (by rw [habs]; rfl),
    eq_of_not_written (congrArg State.draws hframe)⟩

/-- Settles O25: the flag fields of `exec_framed`. -/
theorem flagFrame : Obligations.FlagFrame := by
  unfold Obligations.FlagFrame
  intro i s t h
  obtain ⟨lo, hi, hframe, -⟩ := exec_framed h
  exact ⟨eq_of_not_written (congrArg State.flagC hframe),
    fun hw => ⟨eq_of_not_written (congrArg State.flagZ hframe) hw, eq_of_not_written (congrArg State.flagN hframe) hw⟩,
    eq_of_not_written (congrArg State.flagI hframe), eq_of_not_written (congrArg State.flagD hframe),
    eq_of_not_written (congrArg State.flagB hframe), eq_of_not_written (congrArg State.flagV hframe)⟩

/-- Settles O2: the reset state is written out field by field, and an empty memory reads as the unlisted byte, which is
also what the vector is made of. -/
theorem resetStateHoldsTheLoggedValues : Obligations.ResetStateHoldsTheLoggedValues := by
  unfold Obligations.ResetStateHoldsTheLoggedValues
  have hread : ∀ a : Word, memRead State.reset a = 0 := fun _ => rfl
  have hreset : hostReset State.reset = State.reset := by
    simp only [hostReset, read16, hread]
    rfl
  exact ⟨hreset, rfl, rfl, rfl, rfl, rfl, rfl, rfl, rfl, rfl, rfl, rfl, rfl, rfl, rfl, rfl, rfl, hread, rfl, rfl⟩

/-- Settles O3: a memory that lists nothing is in canonical form. -/
theorem resetMemoryIsCanonical : Obligations.ResetMemoryIsCanonical := by
  unfold Obligations.ResetMemoryIsCanonical
  rfl

end Sys2Proof.Proofs
end

section
/-! The lengths of the opcode table's entries (30_encoding.md R51, R54), and what they mean for the decoder: three bytes
are always enough. -/

namespace Sys2Proof.Proofs

/-- What holds of every element of a list and of the default holds of every lookup. -/
theorem getD_of_forall_mem {α : Type} {p : α → Prop} {l : List α} {d : α} (hl : ∀ x ∈ l, p x) (hd : p d) (n : Nat) :
    p (l.getD n d) := by
  rw [List.getD_eq_getElem?_getD]
  cases h : l[n]? with
  | none => exact hd
  | some x => exact hl x (List.mem_of_getElem? h)

/-- What holds of every cell of the opcode map holds of every table entry (30_encoding.md R52, R58). -/
theorem tableEntry_of_forall_rows {p : TableEntry → Prop} (hrows : ∀ row ∈ opcodeRows, ∀ e ∈ row, p e) (hdot : p dot)
    (op : Byte) : p (tableEntry op) := by
  have hrow : ∀ e ∈ opcodeRows.getD (op.toNat / 16) [], p e :=
    getD_of_forall_mem (p := fun row => ∀ e ∈ row, p e) hrows (List.forall_mem_nil p) _
  exact getD_of_forall_mem hrow hdot _

/-- Every entry of the opcode table has at most three bytes (30_encoding.md R51, R54). -/
theorem tableEntry_length_le (op : Byte) : (tableEntry op).length ≤ 3 :=
  tableEntry_of_forall_rows (p := fun e => e.length ≤ 3) (by decide) (by decide) op

/-- Three bytes are enough for the decoder, whatever the first one is (30_encoding.md R51, R59). -/
theorem decodeBytes_three (b0 b1 b2 : Byte) :
    decodeBytes [b0, b1, b2] = .ok (decode b0 b1 b2, [b1, b2].drop ((tableEntry b0).length - 1)) := by
  have hlen : ¬ [b1, b2].length < (tableEntry b0).length - 1 := by
    have := tableEntry_length_le b0
    simp only [List.length_cons, List.length_nil]
    omega
  exact if_neg hlen

end Sys2Proof.Proofs
end

section
/-! The obligations on the memory (20_memory.md). Which byte an instruction stores, and where, is said once, in `exec_mem`;
every invariant and frame of memory under `step` follows from it. -/

namespace Sys2Proof.Proofs

open Sys2Proof.Machine Sys2Proof.Safety

/-! ## What an instruction does to memory -/

/-- The memory after an instruction (20_memory.md R36): the one byte that `storeAddr` and `storedByte` name is stored, if
there is one. -/
theorem exec_mem {i : Instr} {s t : State} (h : exec i s = .next t) :
    t.mem = (storeAddr i s).elim s.mem fun a => Memory.write s.mem a.toNat (storedByte i s a) := by
  rw [exec_eq] at h
  cases h
  cases i
  case adcImm | adcZp | adcZpx | adcAbs | adcAbsx | adcAbsy | adcIndx | adcIndy =>
    exact (congrArg State.mem (adcAcc_eq _ _) :)
  all_goals rfl

/-- An instruction that stores writes one byte. -/
theorem exec_mem_of_store {i : Instr} {s t : State} {a : Word} (ha : storeAddr i s = some a)
    (h : exec i s = .next t) : t.mem = Memory.write s.mem a.toNat (storedByte i s a) := by
  rw [exec_mem h, ha, Option.elim_some]

/-- An instruction that does not store leaves memory as it is. -/
theorem exec_mem_of_no_store {i : Instr} {s t : State} (ha : storeAddr i s = none) (h : exec i s = .next t) :
    t.mem = s.mem := by
  rw [exec_mem h, ha, Option.elim_none]

/-- Every instruction keeps the canonical form: what it stores, it stores at a 16-bit address. -/
theorem exec_keeps_canonical {i : Instr} {s t : State} (hs : Canonical s) (h : exec i s = .next t) : Canonical t := by
  unfold Canonical
  cases ha : storeAddr i s with
  | none => rwa [exec_mem_of_no_store ha h]
  | some a =>
    rw [exec_mem_of_store ha h]
    exact Memory.wf_write a _ hs

/-- Settles O4: Fetch writes no memory, and what follows is one instruction. -/
theorem stepKeepsMemoryCanonical : Obligations.StepKeepsMemoryCanonical := by
  unfold Obligations.StepKeepsMemoryCanonical
  intro s t hs h
  have hfetch : Canonical (fetchLatch s) := hs
  exact exec_keeps_canonical hfetch (step_next h).2

/-- Settles O6: the two laws of a read after a write, and that `memWrite` updates the memory field alone. -/
theorem memoryReturnsTheLastWrite : Obligations.MemoryReturnsTheLastWrite := by
  unfold Obligations.MemoryReturnsTheLastWrite
  intro s a v
  exact ⟨fun _ hc => memRead_memWrite_other v hc, memRead_memWrite_same a v, rfl⟩

/-- Settles O15: a step of an initialized machine is Fetch, Resolve, Execute, each of which is total. -/
theorem everyStepCompletes : Obligations.EveryStepCompletes := by
  unfold Obligations.EveryStepCompletes
  intro s hs
  exact ⟨_, step_eq hs⟩

/-! ## An instruction placed at `pc` -/

/-- A write keeps the canonical form of the state's memory (20_memory.md R35). -/
theorem canonical_memWrite {s : State} (a : Word) (v : Byte) (h : Canonical s) : Canonical (memWrite a v s) :=
  Memory.wf_write a v h

/-- The three bytes placed at an address read back in their order: the addresses differ, even where they wrap. -/
theorem memRead_placeBytes {s : State} (a : Word) (b0 b1 b2 : Byte) (h : Canonical s) :
    memRead (placeBytes a b0 b1 b2 s) a = b0 ∧ memRead (placeBytes a b0 b1 b2 s) (a + 1) = b1 ∧
    memRead (placeBytes a b0 b1 b2 s) (a + 2) = b2 := by
  have h01 : a ≠ a + 1 := by bv_omega
  have h02 : a ≠ a + 2 := by bv_omega
  have h12 : a + 1 ≠ a + 2 := by bv_omega
  have hw0 := canonical_memWrite a b0 h
  have hw1 := canonical_memWrite (a + 1) b1 hw0
  unfold placeBytes
  refine ⟨?_, ?_, memRead_memWrite_same _ _ hw1⟩
  · rw [memRead_memWrite_other _ h02, memRead_memWrite_other _ h01, memRead_memWrite_same _ _ h]
  · rw [memRead_memWrite_other _ h12, memRead_memWrite_same _ _ hw0]

/-- Fetch decodes the bytes that were placed at `pc` (20_memory.md R50). -/
theorem fetchInstr_placeBytes {s : State} (b0 b1 b2 : Byte) (h : Canonical s) :
    fetchInstr (placeBytes s.pc b0 b1 b2 s) = decode b0 b1 b2 := by
  obtain ⟨h0, h1, h2⟩ := memRead_placeBytes s.pc b0 b1 b2 h
  have hpc : (placeBytes s.pc b0 b1 b2 s).pc = s.pc := rfl
  rw [fetchInstr, hpc, h0, h1, h2]

/-- Settles O26: the decoder and Fetch read the same three bytes, and placing them writes memory alone. -/
theorem placedInstructionIsFetchedNext : Obligations.PlacedInstructionIsFetchedNext := by
  unfold Obligations.PlacedInstructionIsFetchedNext
  intro s nbits w hs
  refine ⟨?_, rfl, rfl⟩
  have hinit : Canonical { s with initialized := true } := hs
  simp only [decodeTableWord, decodeBytes_three]
  exact congrArg some (fetchInstr_placeBytes _ _ _ hinit).symm

end Sys2Proof.Proofs
end

section
/-! The opcode table and the encoder say the same (30_encoding.md R51-R59), in both directions. What a byte decodes to is
well-formed (`wellFormed_decode`), is encoded as that byte and as many operand bytes as the entry's length says
(`encode_decode`), and is absent exactly where that length is 0 (`absentOpcode_decode`). The encoding of a well-formed
instruction decodes to it (`decode_encoding`, `decodeBytes_of_encode`). -/

namespace Sys2Proof.Proofs

/-- What every cell of the opcode map keeps to, wherever it stands (30_encoding.md R54, R55): the instruction takes the
operand bytes that the entry's length says, is absent where that length is 0, and is of one kind whatever these bytes are. -/
structure Regular (e : TableEntry) : Prop where
  encode_build : ∀ op b1 b2, encode (e.build op b1 b2) = (e.build op 0 0).opcode :: [b1, b2].take (e.length - 1)
  absentOpcode_build : ∀ op b1 b2,
    (e.build op b1 b2).absentOpcode = if e.length = 0 then some (e.build op 0 0).opcode else none
  wellFormed_build : ∀ op b1 b2, (e.build op b1 b2).wellFormed = (e.build op 0 0).wellFormed

/-- Each of the 256 cells is regular by what it was made of: `entry1`, `entry2`, `entry3`, `absent` or `dot`. -/
theorem regular_of_mem_rows : ∀ row ∈ opcodeRows, ∀ e ∈ row, Regular e := by
  simp only [opcodeRows, opcodeRow0, opcodeRow1, opcodeRow2, opcodeRow3, opcodeRow4, opcodeRow5, opcodeRow6, opcodeRow7,
    opcodeRow8, opcodeRow9, opcodeRowA, opcodeRowB, opcodeRowC, opcodeRowD, opcodeRowE, opcodeRowF, List.forall_mem_cons,
    List.not_mem_nil, false_implies, implies_true, and_true]
  and_intros
  all_goals exact ⟨fun _ _ _ => rfl, fun _ _ _ => rfl, fun _ _ _ => rfl⟩

/-- Every entry of the opcode table is regular. -/
theorem regular_tableEntry (op : Byte) : Regular (tableEntry op) :=
  tableEntry_of_forall_rows regular_of_mem_rows ⟨fun _ _ _ => rfl, fun _ _ _ => rfl, fun _ _ _ => rfl⟩ op

/-- Each of the 256 cells stands in its place (30_encoding.md R52, R57, R58): its instruction has the opcode of that place,
and a dot stands at an undocumented byte. With `Regular` it is enough to look at operand bytes of 0. -/
theorem opcode_and_wellFormed_decode_zero :
    ∀ op : Byte, (decode op 0 0).opcode = op ∧ (decode op 0 0).wellFormed = true := by
  decide

/-- The decoded instruction is encoded as its opcode byte and the operand bytes its entry takes (30_encoding.md R51, R54). -/
theorem encode_decode (op b1 b2 : Byte) :
    encode (decode op b1 b2) = op :: [b1, b2].take ((tableEntry op).length - 1) := by
  obtain ⟨hop, -⟩ := opcode_and_wellFormed_decode_zero op
  exact ((regular_tableEntry op).encode_build op b1 b2).trans (congrArg (· :: _) hop)

/-- The decoder gives no `undocumented` instruction for a byte that has another entry (30_encoding.md R58). -/
theorem wellFormed_decode (op b1 b2 : Byte) : (decode op b1 b2).wellFormed = true := by
  obtain ⟨-, hwf⟩ := opcode_and_wellFormed_decode_zero op
  exact ((regular_tableEntry op).wellFormed_build op b1 b2).trans hwf

/-- The absent instructions are those of the entries of length 0, and each reports its own byte (30_encoding.md R55, R58). -/
theorem absentOpcode_decode (op b1 b2 : Byte) :
    (decode op b1 b2).absentOpcode = if (tableEntry op).length = 0 then some op else none := by
  obtain ⟨hop, -⟩ := opcode_and_wellFormed_decode_zero op
  have habs := (regular_tableEntry op).absentOpcode_build op b1 b2
  rwa [← decode, ← decode, hop] at habs

/-- A dot of the opcode map gives its byte back (30_encoding.md R58). -/
theorem decode_undocumented {op : Byte} (h : (Instr.undocumented op).wellFormed = true) (b1 b2 : Byte) :
    decode op b1 b2 = .undocumented op := by
  have hdots : undocumentedOpcodes.map (decode · b1 b2) = undocumentedOpcodes.map .undocumented := rfl
  exact List.map_inj_left.mp hdots op (List.contains_iff_mem.mp h)

/-- The entry of a well-formed instruction's opcode builds it from its operand bytes, whatever bytes follow them
(30_encoding.md R57, R59). -/
theorem decode_encoding (i : Instr) (rest : List Byte) (h : i.wellFormed = true) :
    decode i.opcode ((i.operands ++ rest).getD 0 0) ((i.operands ++ rest).getD 1 0) = i := by
  cases i
  case undocumented op => exact decode_undocumented h _ _
  all_goals
    dsimp only [Instr.opcode]
    rfl

/-- The entry of a well-formed instruction's opcode tells how many operand bytes it has (30_encoding.md R54). -/
theorem length_operands {i : Instr} (h : i.wellFormed = true) :
    i.operands.length = (tableEntry i.opcode).length - 1 := by
  have henc := encode_decode i.opcode ((i.operands ++ []).getD 0 0) ((i.operands ++ []).getD 1 0)
  rw [decode_encoding i [] h] at henc
  have hle := tableEntry_length_le i.opcode
  have hlen := congrArg List.length henc
  simp only [encode, List.length_cons, List.length_take, List.length_nil] at hlen
  omega

/-- A list that begins with the encoding of a well-formed instruction decodes to it: the entry of the opcode byte takes
exactly the operand bytes and builds the instruction from them. -/
theorem decodeBytes_of_encode {i : Instr} {bs rest : List Byte} (hw : i.wellFormed = true) (hbs : encode i ++ rest = bs) :
    decodeBytes bs = .ok (i, rest) := by
  subst hbs
  have hlong : ¬ (i.operands ++ rest).length < i.operands.length := by simp
  simp only [encode, List.cons_append, decodeBytes, ← length_operands hw, if_neg hlong, decode_encoding i rest hw,
    List.drop_left]

/-- Up to two bytes off the front of a list, as the decoder reads them. -/
theorem take_getD_pair {l : List Byte} {k : Nat} (hk : k ≤ 2) (hl : k ≤ l.length) :
    [l.getD 0 0, l.getD 1 0].take k = l.take k := by
  match k, l with
  | 0, _ => rfl
  | 1, _ :: _ => rfl
  | 2, _ :: _ :: _ => rfl

end Sys2Proof.Proofs
end

section
/-! The obligations on the encoding (30_encoding.md). -/

namespace Sys2Proof.Proofs

open Sys2Proof.Machine Sys2Proof.Safety

/-- Settles O10: `decodeBytes_of_encode`, for the encoding and any bytes after it. -/
theorem decodeOfEncodeIsIdentity : Obligations.DecodeOfEncodeIsIdentity := by
  unfold Obligations.DecodeOfEncodeIsIdentity
  intro i rest hw
  exact decodeBytes_of_encode hw rfl

/-- Settles O11: a list long enough for its first byte's entry is that byte, the operand bytes the decoder takes and the
bytes it leaves. -/
theorem encodeOfDecodeIsIdentity : Obligations.EncodeOfDecodeIsIdentity := by
  unfold Obligations.EncodeOfDecodeIsIdentity
  intro bs i rest h
  cases bs with
  | nil => cases h
  | cons op tail =>
    simp only [decodeBytes] at h
    split at h
    next => cases h
    next hlong =>
      cases h
      have hle := tableEntry_length_le op
      refine ⟨wellFormed_decode _ _ _, ?_⟩
      rw [encode_decode, take_getD_pair (by omega) (by omega), List.cons_append, List.take_append_drop]

/-- Settles O13: `absentOpcode_decode` in both cases, and a count over the 256 entries. -/
theorem absentEntriesHaveLengthZero : Obligations.AbsentEntriesHaveLengthZero := by
  unfold Obligations.AbsentEntriesHaveLengthZero
  refine ⟨fun op b1 b2 => ?_, by decide +kernel⟩
  rw [absentOpcode_decode]
  by_cases hlen : (tableEntry op).length = 0
  · simp [hlen]
  · simp [hlen, tableEntry_length_le]

/-- Settles O22: `exec_mem` names the one byte an instruction stores, and a write leaves every other byte alone. -/
theorem memoryFrame : Obligations.MemoryFrame := by
  unfold Obligations.MemoryFrame
  intro i s t h
  refine ⟨fun a ha c hc => ?_, fun ha c => memRead_congr (exec_mem_of_no_store ha h) c⟩
  have hmem : t.mem = (memWrite a (storedByte i s a) s).mem := exec_mem_of_store ha h
  exact (memRead_congr hmem c).trans (memRead_memWrite_other _ hc)

/-- Settles O57: a step completes only where the mark is set, and no instruction writes it. -/
theorem stepKeepsTheTableBuilt : Obligations.StepKeepsTheTableBuilt := by
  unfold Obligations.StepKeepsTheTableBuilt
  intro s t h
  obtain ⟨hinit, hexec⟩ := step_next h
  obtain ⟨-, hmark, -⟩ := registerFrame _ _ _ hexec
  exact ⟨hinit, hmark.trans hinit⟩

/-- Settles O12: each list is the encoding of the instruction it stands for. -/
theorem specWordsDecode : Obligations.SpecWordsDecode := by
  unfold Obligations.SpecWordsDecode
  and_intros
  all_goals exact decodeBytes_of_encode rfl rfl

/-- Settles O14: three bytes are enough for the decoder, which reads from them the instruction that Fetch gives. -/
theorem stepRunsTheDecodedInstruction : Obligations.StepRunsTheDecodedInstruction := by
  unfold Obligations.StepRunsTheDecodedInstruction
  intro s i rest hinit hdec
  rw [decodeBytes_three] at hdec
  cases hdec
  exact step_of_initialized hinit

/-- An absent instruction adds the opcode it reports to the record, and does nothing else (60_exceptions.md R134, R136). -/
theorem exec_of_absent {i : Instr} {op : Byte} (h : i.absentOpcode = some op) (s : State) : exec i s = recorded op s := by
  cases i
  all_goals cases h
  all_goals rfl

/-- Settles O55: every instruction named is absent and reports the opcode named. -/
theorem absentOpcodesOnlyRecord : Obligations.AbsentOpcodesOnlyRecord := by
  unfold Obligations.AbsentOpcodesOnlyRecord
  intro s
  and_intros
  all_goals intros; exact exec_of_absent rfl s

end Sys2Proof.Proofs
end

section
/-! The obligations on the addressing modes (40_addressing.md). Every resolver is `setOperand` on the pair its rule names,
so its effective address is `word16` of that pair; in the zero page that is the byte, zero-extended (`word16_zero`). -/

namespace Sys2Proof.Proofs

open Sys2Proof.Machine

/-! ## Addresses -/

/-- With a high byte of 0 the pair names the byte's place in the zero page (40_addressing.md R75-R77). -/
theorem word16_zero (b : Byte) : word16 0 b = zext16 b :=
  (BitVec.setWidth_eq_append (by decide)).symm

/-- A zero-extended byte is an address in page 0 (00_scope.md R13). -/
theorem zext16_toNat_lt (b : Byte) : (zext16 b).toNat < 0x100 := by
  rw [zext16, BitVec.toNat_setWidth_of_le (by decide)]
  exact b.isLt

/-! ## The resolvers that read a pointer, in terms of the bytes it is made of -/

/-- The second pointer byte is at the 16-bit successor (40_addressing.md R81; log 2: DESIGN CHOICE (D7), unsafe). -/
theorem resolveInd_eq (lo hi : Byte) (s : State) :
    resolveInd lo hi s = setOperand 2 (memRead s (word16 hi lo + 1)) (memRead s (word16 hi lo)) s := rfl

/-- The pair is the zero-page pointer itself (40_addressing.md R83). -/
theorem resolveIndx_eq (b : Byte) (s : State) :
    resolveIndx b s = setOperand 1 (memRead s (zext16 (b + s.x + 1))) (memRead s (zext16 (b + s.x))) s := by
  simp only [resolveIndx, zpRead16_eq, hi8_word16, lo8_word16]

/-! ## Operand bytes -/

/-- A resolver advances `pc` past its operand bytes and no further (40_addressing.md R70). -/
theorem Mode.resolve_pc (m : Mode) (s : State) : (m.resolve s).pc = s.pc + BitVec.ofNat 16 m.operands.length := by
  obtain ⟨lo, hi, hres, -⟩ := m.exists_resolve_eq s
  rw [hres]

/-! ## The obligations -/

/-- Settles O29: the three pairs are the definition's, and with `th` = 0 the effective address is in page 0. -/
theorem immediateAndZeroPageResolversWriteThePair : Obligations.ImmediateAndZeroPageResolversWriteThePair := by
  unfold Obligations.ImmediateAndZeroPageResolversWriteThePair
  intro s b
  have hzp : effAddr (resolveZp b s) = zext16 b := (effAddr_resolveZp b s).trans (word16_zero b)
  have hpage : (effAddr (resolveZp b s)).toNat < 0x100 := hzp ▸ zext16_toNat_lt b
  have hzpx : effAddr (resolveZpx b s) = zext16 (b + s.x) := (effAddr_resolveZpx b s).trans (word16_zero _)
  exact ⟨rfl, rfl, hzp, hpage, rfl, hzpx⟩

/-- Settles O30: as for zero-page,X, with `y` for `x`. -/
theorem zeroPageYResolverWritesThePair : Obligations.ZeroPageYResolverWritesThePair := by
  unfold Obligations.ZeroPageYResolverWritesThePair
  intro s b
  exact ⟨rfl, (effAddr_resolveZpy b s).trans (word16_zero _)⟩

/-- Settles O31: the pairs are the definition's, and the two bytes of a 16-bit sum make up that sum again, by
`effAddr_resolveAbsx` and `effAddr_resolveAbsy`. -/
theorem absoluteResolversWriteThePair : Obligations.AbsoluteResolversWriteThePair := by
  unfold Obligations.AbsoluteResolversWriteThePair
  intro s lo hi
  exact ⟨rfl, effAddr_resolveAbs lo hi s, rfl, effAddr_resolveAbsx lo hi s, rfl, effAddr_resolveAbsy lo hi s⟩

/-- Settles O32: each pair is made of the bytes its pointer names; the sum of R84 is of `zpRead16`, by `zpRead16_eq`. -/
theorem indirectResolversDereferenceThePointer : Obligations.IndirectResolversDereferenceThePointer := by
  unfold Obligations.IndirectResolversDereferenceThePointer
  intro s b lo hi
  exact ⟨resolveInd_eq lo hi s, resolveIndx_eq b s, zpRead16 s b + zext16 s.y, by rw [zpRead16_eq], rfl⟩

/-- Settles O33: `Mode.resolve_pc` for each of the ten modes that have a resolver. -/
theorem resolversConsumeTheirOperandBytes : Obligations.ResolversConsumeTheirOperandBytes := by
  unfold Obligations.ResolversConsumeTheirOperandBytes
  intro s b lo hi
  exact ⟨(Mode.imm b).resolve_pc s, (Mode.zp b).resolve_pc s, (Mode.zpx b).resolve_pc s, (Mode.zpy b).resolve_pc s,
    (Mode.indx b).resolve_pc s, (Mode.indy b).resolve_pc s, (Mode.abs lo hi).resolve_pc s, (Mode.absx lo hi).resolve_pc s,
    (Mode.absy lo hi).resolve_pc s, (Mode.ind lo hi).resolve_pc s⟩

end Sys2Proof.Proofs
end

section
/-! The obligations on loads and stores (41_load_store.md). Each form of a load or store is one executor on the state its
resolver leaves, so what the executor does is said once per register, for the addressing modes together. -/

namespace Sys2Proof.Proofs

open Sys2Proof.Machine Sys2Proof.Safety

/-! ## Reading back what was stored -/

/-- Settles O23: by `exec_mem_of_store` the memory is that of one `memWrite`, which reads back what it wrote. -/
theorem storedByteReadsBack : Obligations.StoredByteReadsBack := by
  unfold Obligations.StoredByteReadsBack
  intro i s t a hs ha h
  have hmem : t.mem = (memWrite a (storedByte i s a) s).mem := exec_mem_of_store ha h
  rw [memRead_congr hmem, memRead_memWrite_same a _ hs]

/-! ## Loads -/

/-- The load of the accumulator sets Z and N from the loaded byte and changes nothing else (41_load_store.md R87). -/
theorem next_loadAcc (v : Byte) (r : State) : .next (loadAcc v r) = accTakes v r :=
  congrArg _ (zeroAndNegativeFollowTheResult v { r with acc := v })

/-- The load of X sets Z and N from the loaded byte and changes nothing else (41_load_store.md R88). -/
theorem next_loadX (v : Byte) (r : State) : .next (loadX v r) = xTakes v r :=
  congrArg _ (zeroAndNegativeFollowTheResult v { r with x := v })

/-- The load of Y sets Z and N from the loaded byte and changes nothing else (41_load_store.md R89). -/
theorem next_loadY (v : Byte) (r : State) : .next (loadY v r) = yTakes v r :=
  congrArg _ (zeroAndNegativeFollowTheResult v { r with y := v })

/-- Settles O35: each form is `loadAcc` of the operand its mode gives (40_addressing.md R85). -/
theorem ldaLoadsTheAccumulator : Obligations.LdaLoadsTheAccumulator := by
  unfold Obligations.LdaLoadsTheAccumulator
  intro s b lo hi
  exact ⟨next_loadAcc _ _, next_loadAcc _ _, next_loadAcc _ _, next_loadAcc _ _, next_loadAcc _ _, next_loadAcc _ _,
    next_loadAcc _ _, next_loadAcc _ _⟩

/-- Settles O36: each form of LDX is `loadX`, and each form of LDY `loadY`, of the operand its mode gives
(40_addressing.md R85). -/
theorem ldxAndLdyLoadTheIndexRegisters : Obligations.LdxAndLdyLoadTheIndexRegisters := by
  unfold Obligations.LdxAndLdyLoadTheIndexRegisters
  intro s b lo hi
  exact ⟨next_loadX _ _, next_loadX _ _, next_loadX _ _, next_loadX _ _, next_loadX _ _, next_loadY _ _, next_loadY _ _,
    next_loadY _ _, next_loadY _ _, next_loadY _ _⟩

/-! ## Stores -/

/-- A resolver writes neither the accumulator nor an index register (40_addressing.md R68). -/
theorem Mode.resolve_registers (m : Mode) (s : State) :
    (m.resolve s).acc = s.acc ∧ (m.resolve s).x = s.x ∧ (m.resolve s).y = s.y := by
  obtain ⟨lo, hi, hres, -⟩ := m.exists_resolve_eq s
  rw [hres]
  exact ⟨rfl, rfl, rfl⟩

/-- The byte stored at EA is the accumulator from before Resolve (41_load_store.md R90). -/
theorem next_storeAcc_resolve (m : Mode) (s : State) : .next (storeAcc (m.resolve s)) = eaTakes s.acc (m.resolve s) := by
  obtain ⟨hacc, -, -⟩ := m.resolve_registers s
  exact congrArg (eaTakes · (m.resolve s)) hacc

/-- The byte stored at EA is X from before Resolve (41_load_store.md R91). -/
theorem next_storeX_resolve (m : Mode) (s : State) : .next (storeX (m.resolve s)) = eaTakes s.x (m.resolve s) := by
  obtain ⟨-, hx, -⟩ := m.resolve_registers s
  exact congrArg (eaTakes · (m.resolve s)) hx

/-- The byte stored at EA is Y from before Resolve (41_load_store.md R92). -/
theorem next_storeY_resolve (m : Mode) (s : State) : .next (storeY (m.resolve s)) = eaTakes s.y (m.resolve s) := by
  obtain ⟨-, -, hy⟩ := m.resolve_registers s
  exact congrArg (eaTakes · (m.resolve s)) hy

/-- Settles O37: `next_storeAcc_resolve` for each of the seven modes. -/
theorem staStoresTheAccumulator : Obligations.StaStoresTheAccumulator := by
  unfold Obligations.StaStoresTheAccumulator
  intro s b lo hi
  exact ⟨next_storeAcc_resolve (.zp b) s, next_storeAcc_resolve (.zpx b) s, next_storeAcc_resolve (.abs lo hi) s,
    next_storeAcc_resolve (.absx lo hi) s, next_storeAcc_resolve (.absy lo hi) s, next_storeAcc_resolve (.indx b) s,
    next_storeAcc_resolve (.indy b) s⟩

/-- Settles O38: `next_storeX_resolve` and `next_storeY_resolve` for each of their three modes. -/
theorem stxAndStyStoreTheIndexRegisters : Obligations.StxAndStyStoreTheIndexRegisters := by
  unfold Obligations.StxAndStyStoreTheIndexRegisters
  intro s b lo hi
  exact ⟨next_storeX_resolve (.zp b) s, next_storeX_resolve (.zpy b) s, next_storeX_resolve (.abs lo hi) s,
    next_storeY_resolve (.zp b) s, next_storeY_resolve (.zpx b) s, next_storeY_resolve (.abs lo hi) s⟩

end Sys2Proof.Proofs
end

section
/-! The obligations on compare, increment and decrement (42_compare_incdec.md). As with loads and stores, what a compare
and a step of the byte at EA do is said once, for the addressing modes together. -/

namespace Sys2Proof.Proofs

open Sys2Proof.Machine Sys2Proof.Safety

/-! ## Compare -/

/-- A byte difference is the integer difference modulo 256 (00_scope.md R13). -/
theorem toNat_sub_int (r v : Byte) : ((r - v).toNat : Int) = ((r.toNat : Int) - (v.toNat : Int)) % 256 := by
  rw [BitVec.toNat_sub]
  omega

/-- Settles O39: `compareFlags` is, by its definition, the update of these three fields alone, and N is the top bit of a
byte that is the integer difference modulo 256 (42_compare_incdec.md R93). -/
theorem compareSetsCarryZeroNegative : Obligations.CompareSetsCarryZeroNegative := by
  unfold Obligations.CompareSetsCarryZeroNegative
  intro r v s
  refine ⟨rfl, ?_⟩
  have hN : (r - v).getLsbD 7 = decide (128 ≤ (r - v).toNat) := (r - v).getLsbD_last
  rw [hN, ← toNat_sub_int]
  simp only [Nat.ofNat_le_cast]

/-- A compare sets C, Z and N and changes nothing else (42_compare_incdec.md R93). -/
theorem next_compareFlags (reg v : Byte) (r : State) : .next (compareFlags reg v r) = compared reg v r := by
  obtain ⟨hflags, -⟩ := compareSetsCarryZeroNegative reg v r
  exact congrArg _ hflags

/-- The compared register is the accumulator from before Resolve (42_compare_incdec.md R94). -/
theorem next_compareAcc_resolve (m : Mode) (v : Byte) (s : State) :
    .next (compareAcc v (m.resolve s)) = compared s.acc v (m.resolve s) := by
  obtain ⟨hacc, -, -⟩ := m.resolve_registers s
  rw [← hacc]
  exact next_compareFlags _ v _

/-- The compared register is X from before Resolve (42_compare_incdec.md R95). -/
theorem next_compareX_resolve (m : Mode) (v : Byte) (s : State) :
    .next (compareX v (m.resolve s)) = compared s.x v (m.resolve s) := by
  obtain ⟨-, hx, -⟩ := m.resolve_registers s
  rw [← hx]
  exact next_compareFlags _ v _

/-- The compared register is Y from before Resolve (42_compare_incdec.md R96). -/
theorem next_compareY_resolve (m : Mode) (v : Byte) (s : State) :
    .next (compareY v (m.resolve s)) = compared s.y v (m.resolve s) := by
  obtain ⟨-, -, hy⟩ := m.resolve_registers s
  rw [← hy]
  exact next_compareFlags _ v _

/-- Settles O40: each form is `compareAcc` of the operand its mode gives (40_addressing.md R85). -/
theorem cmpComparesTheAccumulator : Obligations.CmpComparesTheAccumulator := by
  unfold Obligations.CmpComparesTheAccumulator
  intro s b lo hi
  exact ⟨next_compareAcc_resolve (.imm b) _ s, next_compareAcc_resolve (.zp b) _ s, next_compareAcc_resolve (.zpx b) _ s,
    next_compareAcc_resolve (.abs lo hi) _ s, next_compareAcc_resolve (.absx lo hi) _ s,
    next_compareAcc_resolve (.absy lo hi) _ s, next_compareAcc_resolve (.indx b) _ s,
    next_compareAcc_resolve (.indy b) _ s⟩

/-- Settles O41: each form of CPX is `compareX`, and each form of CPY `compareY`, of the operand its mode gives
(40_addressing.md R85). -/
theorem cpxAndCpyCompareTheIndexRegisters : Obligations.CpxAndCpyCompareTheIndexRegisters := by
  unfold Obligations.CpxAndCpyCompareTheIndexRegisters
  intro s b lo hi
  exact ⟨next_compareX_resolve (.imm b) _ s, next_compareX_resolve (.zp b) _ s, next_compareX_resolve (.abs lo hi) _ s,
    next_compareY_resolve (.imm b) _ s, next_compareY_resolve (.zp b) _ s, next_compareY_resolve (.abs lo hi) _ s⟩

/-! ## Increment and decrement -/

/-- The byte at EA is read, changed and written back, Z and N are set from the result, and nothing else changes
(42_compare_incdec.md R97, R98). -/
theorem next_stepMem (f : Byte → Byte) (r : State) : .next (stepMem f r) = eaTakesZN (f (byteAtEA r)) r :=
  congrArg _ (zeroAndNegativeFollowTheResult (f (byteAtEA r)) (memWrite (effAddr r) (f (byteAtEA r)) r))

/-- Settles O42: each form is `stepMem` on the state its resolver leaves. -/
theorem incAndDecStepTheMemoryByte : Obligations.IncAndDecStepTheMemoryByte := by
  unfold Obligations.IncAndDecStepTheMemoryByte
  intro s b lo hi
  exact ⟨next_stepMem (· + 1) _, next_stepMem (· + 1) _, next_stepMem (· + 1) _, next_stepMem (· + 1) _,
    next_stepMem (· - 1) _, next_stepMem (· - 1) _, next_stepMem (· - 1) _, next_stepMem (· - 1) _⟩

/-- Settles O43: each instruction is the load of its register with the stepped value (42_compare_incdec.md R99-R102). -/
theorem indexRegistersStepByOne : Obligations.IndexRegistersStepByOne := by
  unfold Obligations.IndexRegistersStepByOne
  intro s
  exact ⟨next_loadX (s.x + 1) s, next_loadY (s.y + 1) s, next_loadX (s.x - 1) s, next_loadY (s.y - 1) s⟩

end Sys2Proof.Proofs
end

section
/-! The obligations on the logical group and the shift (43_logic_shift.md). The three operations differ only in how they
combine the accumulator with the operand, so what they do with the result is said once, for any such combination. -/

namespace Sys2Proof.Proofs

open Sys2Proof.Machine Sys2Proof.Safety

/-! ## Shift -/

/-- The bit shifted in at the top is 0 (43_logic_shift.md R106). -/
theorem getLsbD_ushiftRight_one_last (v : Byte) : (v >>> 1).getLsbD 7 = false := by
  rw [BitVec.getLsbD_ushiftRight]
  exact v.getLsbD_of_ge _ (by decide)

/-- The flags of the shift: C is the bit shifted out, Z is the result's, N is 0 (43_logic_shift.md R106). -/
theorem shiftFlags_eq (v : Byte) (s : State) :
    shiftFlags v s = { s with flagC := v.getLsbD 0, flagZ := decide (v >>> 1 = 0), flagN := false } := by
  rw [shiftFlags, zeroAndNegativeFollowTheResult, getLsbD_ushiftRight_one_last]

/-- The byte at EA is read, shifted and written back, C, Z and N follow the shift, and nothing else changes
(43_logic_shift.md R106). -/
theorem next_shiftMem (r : State) : .next (shiftMem r) = eaShifts (byteAtEA r) r :=
  congrArg _ (shiftFlags_eq (byteAtEA r) (memWrite (effAddr r) (byteAtEA r >>> 1) r))

/-- Settles O45: LSR A shifts without a resolver, and each memory form is `shiftMem` on the state its resolver leaves. -/
theorem lsrShiftsRightIntoCarry : Obligations.LsrShiftsRightIntoCarry := by
  unfold Obligations.LsrShiftsRightIntoCarry
  intro s b lo hi
  exact ⟨congrArg _ (shiftFlags_eq s.acc { s with acc := s.acc >>> 1 }), next_shiftMem _, next_shiftMem _,
    next_shiftMem _, next_shiftMem _⟩

/-! ## Logical operations -/

/-- A result of the logical group goes to the accumulator, Z and N follow it, and nothing else changes; the accumulator
it was combined from is the one from before Resolve (43_logic_shift.md R103-R105). -/
theorem next_setAcc_resolve (op : Byte → Byte → Byte) (m : Mode) (v : Byte) (s : State) :
    .next (setAcc (op (m.resolve s).acc v) (m.resolve s)) = accTakes (op s.acc v) (m.resolve s) := by
  obtain ⟨hacc, -, -⟩ := m.resolve_registers s
  rw [hacc]
  exact next_loadAcc _ _

/-- AND combines the accumulator from before Resolve with the operand (43_logic_shift.md R103). -/
theorem next_andAcc_resolve (m : Mode) (v : Byte) (s : State) :
    .next (andAcc v (m.resolve s)) = accTakes (s.acc &&& v) (m.resolve s) :=
  next_setAcc_resolve (· &&& ·) m v s

/-- ORA combines the accumulator from before Resolve with the operand (43_logic_shift.md R104). -/
theorem next_oraAcc_resolve (m : Mode) (v : Byte) (s : State) :
    .next (oraAcc v (m.resolve s)) = accTakes (s.acc ||| v) (m.resolve s) :=
  next_setAcc_resolve (· ||| ·) m v s

/-- EOR combines the accumulator from before Resolve with the operand (43_logic_shift.md R105). -/
theorem next_eorAcc_resolve (m : Mode) (v : Byte) (s : State) :
    .next (eorAcc v (m.resolve s)) = accTakes (s.acc ^^^ v) (m.resolve s) :=
  next_setAcc_resolve (· ^^^ ·) m v s

/-- Settles O44: each form is `andAcc`, `oraAcc` or `eorAcc` of the operand its mode gives (40_addressing.md R85). -/
theorem logicCombinesIntoTheAccumulator : Obligations.LogicCombinesIntoTheAccumulator := by
  unfold Obligations.LogicCombinesIntoTheAccumulator
  intro s b lo hi
  exact ⟨next_andAcc_resolve (.imm b) _ s, next_andAcc_resolve (.zp b) _ s, next_andAcc_resolve (.zpx b) _ s,
    next_andAcc_resolve (.abs lo hi) _ s, next_andAcc_resolve (.absx lo hi) _ s, next_andAcc_resolve (.absy lo hi) _ s,
    next_andAcc_resolve (.indx b) _ s, next_andAcc_resolve (.indy b) _ s,
    next_oraAcc_resolve (.imm b) _ s, next_oraAcc_resolve (.zp b) _ s, next_oraAcc_resolve (.zpx b) _ s,
    next_oraAcc_resolve (.abs lo hi) _ s, next_oraAcc_resolve (.absx lo hi) _ s, next_oraAcc_resolve (.absy lo hi) _ s,
    next_oraAcc_resolve (.indx b) _ s, next_oraAcc_resolve (.indy b) _ s,
    next_eorAcc_resolve (.imm b) _ s, next_eorAcc_resolve (.zp b) _ s, next_eorAcc_resolve (.zpx b) _ s,
    next_eorAcc_resolve (.abs lo hi) _ s, next_eorAcc_resolve (.absx lo hi) _ s, next_eorAcc_resolve (.absy lo hi) _ s,
    next_eorAcc_resolve (.indx b) _ s, next_eorAcc_resolve (.indy b) _ s⟩

end Sys2Proof.Proofs
end

section
/-! The obligations on the stack (44_stack.md): the two shared operations first, then the four instructions that are one
push or one pull each. -/

namespace Sys2Proof.Proofs

open Sys2Proof.Machine Sys2Proof.Safety

/-! ## Push and pull -/

/-- Settles O46: `push` is, by its definition, the update of memory and `sp` alone (44_stack.md R107). -/
theorem pushWritesThenDecrements : Obligations.PushWritesThenDecrements := by
  unfold Obligations.PushWritesThenDecrements
  intro v s
  rfl

/-- A push followed by a pull leaves `sp` as it was, wraps included (44_stack.md R108). -/
theorem pull_push_sp (v : Byte) (s : State) : (pull (push v s)).sp = s.sp := by
  rw [pull_sp, push_sp, BitVec.sub_add_cancel]

/-- A pull reads the byte just pushed: the incremented `sp` names the stack byte the push wrote (44_stack.md R108). -/
theorem pulled_push (v : Byte) {s : State} (h : Canonical s) : pulled (push v s) = v := by
  have hmem : (push v s).mem = (memWrite (stackAddr s.sp) v s).mem := rfl
  rw [pulled, ← pull_sp, pull_push_sp, memRead_congr hmem, memRead_memWrite_same _ v h]

/-- Settles O47: `pull` and `pulled` are, by their definitions, the increment and the read at the new `sp`, and
`pulled_push` with `pull_push_sp` undoes a push. -/
theorem pullIncrementsThenReadsAndInvertsPush : Obligations.PullIncrementsThenReadsAndInvertsPush := by
  unfold Obligations.PullIncrementsThenReadsAndInvertsPush
  refine ⟨fun s => ⟨rfl, rfl⟩, ?_⟩
  intro v s hs
  exact ⟨pulled_push v hs, pull_push_sp v s⟩

/-! ## Stack instructions -/

/-- An instruction that pushes `v` completes, having written the stack byte and decremented `sp` alone
(44_stack.md R109, R110). -/
theorem next_push (v : Byte) (s : State) : (.next (push v s) : StepOutcome) = .next { s with
    mem := Memory.write s.mem (Config.stackBase + zext16 s.sp).toNat v, sp := s.sp - 1 } :=
  congrArg _ (pushWritesThenDecrements v s)

/-- Settles O48: PHA and PHP are one push, PLA is the load of the accumulator with the pulled byte, and PLP is `unpack` of
the pulled byte, by its definition the update of the seven flags (10_state.md R25). -/
theorem stackInstructionsMoveBytes : Obligations.StackInstructionsMoveBytes := by
  unfold Obligations.StackInstructionsMoveBytes
  intro s
  exact ⟨next_push s.acc s, next_push (pack s) s, next_loadAcc (pulled s) (pull s), rfl⟩

end Sys2Proof.Proofs
end

section
/-! The obligations on the flag and transfer instructions (45_flags_transfer.md). All of them are implied: there is
nothing to resolve, so each is its executor on the state it finds. -/

namespace Sys2Proof.Proofs

open Sys2Proof.Machine Sys2Proof.Safety

/-- Settles O49: by `exec_eq` each instruction completes as its executor, the assignment of one flag
(45_flags_transfer.md R113-R119). -/
theorem flagInstructionsWriteOneFlag : Obligations.FlagInstructionsWriteOneFlag := by
  unfold Obligations.FlagInstructionsWriteOneFlag
  intro s
  exact ⟨exec_eq .clc s, exec_eq .sec s, exec_eq .cld s, exec_eq .sed s, exec_eq .cli s, exec_eq .sei s, exec_eq .clv s⟩

/-- Settles O50: each transfer but TXS is the load of its destination with the source register; TXS is, by `exec_eq`, the
assignment of `sp` alone (45_flags_transfer.md R120-R125). -/
theorem transfersCopyARegister : Obligations.TransfersCopyARegister := by
  unfold Obligations.TransfersCopyARegister
  intro s
  exact ⟨next_loadX s.acc s, next_loadAcc s.x s, next_loadY s.acc s, next_loadAcc s.y s, next_loadX s.sp s,
    exec_eq .txs s⟩

end Sys2Proof.Proofs
end

section
/-! The obligations on the control transfer and the system instructions (46_control_system.md). The two forms of JMP
differ only in the pair their resolver leaves, so what the jump does with a pair is said once; BRK and NOP have nothing to
resolve. -/

namespace Sys2Proof.Proofs

open Sys2Proof.Machine

/-- A jump to a resolved pair leaves the pair in `tl` and `th` and its address in `pc`, whatever number of operand bytes
the resolver consumed (46_control_system.md R126; 40_addressing.md R68, R71). -/
theorem jump_setOperand (n : Word) (hi lo : Byte) (s : State) :
    jump (setOperand n hi lo s) = { s with pc := word16 hi lo, tl := lo, th := hi } := by
  rw [jump, effAddr_setOperand, setOperand]

/-- Settles O51: each form is, by `exec_eq`, the jump to the pair its resolver writes: the operand bytes for the absolute
form, the two bytes at the pointer for the indirect one (`resolveInd_eq`). -/
theorem jmpSetsThePc : Obligations.JmpSetsThePc := by
  unfold Obligations.JmpSetsThePc
  intro s lo hi
  have habs : exec (.jmpAbs lo hi) s = .next (jump (resolveAbs lo hi s)) := exec_eq _ _
  have hind : exec (.jmpInd lo hi) s = .next (jump (resolveInd lo hi s)) := exec_eq _ _
  rw [habs, hind, resolveAbs, resolveInd_eq, jump_setOperand, jump_setOperand]
  exact ⟨rfl, rfl⟩

/-- Settles O52: by `exec_eq` each instruction completes as its executor, for BRK the assignment of B alone and for NOP
the state as it is (46_control_system.md R127, R128; 60_exceptions.md R141). -/
theorem brkSetsOnlyBreakAndNopNothing : Obligations.BrkSetsOnlyBreakAndNopNothing := by
  unfold Obligations.BrkSetsOnlyBreakAndNopNothing
  intro s
  exact ⟨exec_eq .brk s, exec_eq .nop s⟩

end Sys2Proof.Proofs
end

section
/-! The obligations on add with carry (47_arithmetic.md). What the executor does is said once for each value of D, for the
addressing modes together: a resolver does not write D. -/

namespace Sys2Proof.Proofs

open Sys2Proof.Machine Sys2Proof.Safety

/-! ## D = 0 -/

/-- The exact sum modulo 256 is the byte sum (00_scope.md R13). -/
theorem ofNat_adcSum (a v : Byte) (c : Bool) : BitVec.ofNat 8 (adcSum a v c) = a + v + (if c then 1 else 0) := by
  have hbytes : BitVec.ofNat 8 (a.toNat + v.toNat) = a + v := by
    rw [BitVec.ofNat_add, BitVec.ofNat_toNat, BitVec.ofNat_toNat, BitVec.setWidth_eq, BitVec.setWidth_eq]
  rw [adcSum, BitVec.ofNat_add, hbytes]
  cases c <;> rfl

/-- The sum leaves a byte exactly where it is 256 or more (47_arithmetic.md R131). -/
theorem carry_adcSum (a v : Byte) (c : Bool) :
    decide (255 < adcSum a v c) = decide (256 ≤ a.toNat + v.toNat + (if c then 1 else 0)) := by
  cases c <;> rfl

/-- A binary ADC writes the sum, its carry out, Z and N, draws V, and changes nothing else (47_arithmetic.md R131). -/
theorem next_adcBinary (v : Byte) (r : State) : .next (adcBinary v r) = adcSums v r := by
  simp only [adcBinary, adcSums, setZN, ofNat_adcSum, carry_adcSum]

/-- A resolver does not write D (40_addressing.md R68). -/
theorem Mode.resolve_flagD (m : Mode) (s : State) : (m.resolve s).flagD = s.flagD := by
  obtain ⟨lo, hi, hres, -⟩ := m.exists_resolve_eq s
  rw [hres]

/-- With D = 0 before Resolve, ADC is the binary one (47_arithmetic.md R131). -/
theorem next_adcAcc_resolve_binary (m : Mode) (v : Byte) {s : State} (h : s.flagD = false) :
    .next (adcAcc v (m.resolve s)) = adcSums v (m.resolve s) := by
  rw [adcAcc, m.resolve_flagD, h]
  exact next_adcBinary v _

/-- Settles O53: each form is `adcAcc` of the operand its mode gives (40_addressing.md R85), with D = 0. -/
theorem adcBinaryAddsWithCarry : Obligations.AdcBinaryAddsWithCarry := by
  unfold Obligations.AdcBinaryAddsWithCarry
  intro s b lo hi hD
  exact ⟨next_adcAcc_resolve_binary (.imm b) _ hD, next_adcAcc_resolve_binary (.zp b) _ hD,
    next_adcAcc_resolve_binary (.zpx b) _ hD, next_adcAcc_resolve_binary (.abs lo hi) _ hD,
    next_adcAcc_resolve_binary (.absx lo hi) _ hD, next_adcAcc_resolve_binary (.absy lo hi) _ hD,
    next_adcAcc_resolve_binary (.indx b) _ hD, next_adcAcc_resolve_binary (.indy b) _ hD⟩

/-! ## D = 1 -/

/-- With D = 1 before Resolve, ADC draws its five results, whatever the operand is (47_arithmetic.md R132). -/
theorem next_adcAcc_resolve_decimal (m : Mode) (v : Byte) {s : State} (h : s.flagD = true) :
    .next (adcAcc v (m.resolve s)) = adcDrawn (m.resolve s) := by
  rw [adcAcc, m.resolve_flagD, h]
  rfl

/-- Settles O54: each form is `adcAcc` of the operand its mode gives (40_addressing.md R85), with D = 1. -/
theorem adcDecimalIsDrawn : Obligations.AdcDecimalIsDrawn := by
  unfold Obligations.AdcDecimalIsDrawn
  intro s b lo hi hD
  exact ⟨next_adcAcc_resolve_decimal (.imm b) _ hD, next_adcAcc_resolve_decimal (.zp b) _ hD,
    next_adcAcc_resolve_decimal (.zpx b) _ hD, next_adcAcc_resolve_decimal (.abs lo hi) _ hD,
    next_adcAcc_resolve_decimal (.absx lo hi) _ hD, next_adcAcc_resolve_decimal (.absy lo hi) _ hD,
    next_adcAcc_resolve_decimal (.indx b) _ hD, next_adcAcc_resolve_decimal (.indy b) _ hD⟩

end Sys2Proof.Proofs
end

section
/-! The obligations on exceptions (60_exceptions.md). What a step adds to the fault record is said once, in `step_record`:
the address and the byte of an absent opcode, and nothing for a present one. That I is not read is shown for Resolve and
for Execute apart, by the state with another I (`setInterrupt`). -/

namespace Sys2Proof.Proofs

open Sys2Proof.Machine Sys2Proof.Safety

/-! ## The interrupt-disable flag -/

/-- The state with another I (10_state.md R23). -/
def setInterrupt (b : Bool) (s : State) : State := { s with flagI := b }

/-- A resolver carries I along unread (40_addressing.md R68). -/
theorem Mode.resolve_setInterrupt (m : Mode) (b : Bool) (s : State) :
    m.resolve (setInterrupt b s) = setInterrupt b (m.resolve s) := by
  cases m <;> rfl

/-- ADC carries I along unread, whether D is set or not (47_arithmetic.md R131, R132). -/
theorem adcAcc_setInterrupt (v : Byte) (b : Bool) (r : State) :
    adcAcc v (setInterrupt b r) = setInterrupt b (adcAcc v r) :=
  (apply_ite (setInterrupt b) (r.flagD = true) (adcDecimal r) (adcBinary v r)).symm

/-- No executor but PHP's reads I: the writers of I overwrite it, the others carry it along (60_exceptions.md R138). -/
theorem execute_setInterrupt {i : Instr} (h : i ≠ .php) (b : Bool) (r : State) :
    execute i (setInterrupt b r) = if writesI i then execute i r else setInterrupt b (execute i r) := by
  cases i
  case php => exact absurd rfl h
  case adcImm | adcZp | adcZpx | adcAbs | adcAbsx | adcAbsy | adcIndx | adcIndy => exact adcAcc_setInterrupt _ b r
  all_goals rfl

/-- Settles O21: Fetch does not read I, a resolver does not (`Mode.resolve_setInterrupt`), and of the executors only PHP's
does (`execute_setInterrupt`). -/
theorem interruptDisableAffectsNothingElse : Obligations.InterruptDisableAffectsNothingElse := by
  unfold Obligations.InterruptDisableAffectsNothingElse
  intro s b hs hphp
  have hstep : step (setInterrupt b s) = .next (execute (fetchInstr s)
      ((modeOf (fetchInstr s)).resolve (setInterrupt b (fetchLatch s)))) := step_eq hs
  refine ⟨_, _, step_eq hs, hstep, ?_⟩
  rw [Mode.resolve_setInterrupt, execute_setInterrupt hphp]
  split <;> rfl

/-! ## The fault record -/

/-- The instruction at `pc` is absent exactly where the entry of the byte there has length 0, and then reports that byte
(30_encoding.md R55, 60_exceptions.md R134). -/
theorem absentOpcode_fetchInstr (s : State) : (fetchInstr s).absentOpcode =
    if (tableEntry (memRead s s.pc)).length = 0 then some (memRead s s.pc) else none :=
  absentOpcode_decode _ _ _

/-- What a step adds to the record (60_exceptions.md R136): the address and the byte of an absent opcode, else nothing. -/
theorem step_record {s t : State} (h : step s = .next t) :
    t.faultRecord = s.faultRecord ++ (fetchInstr s).absentOpcode.toList.map (s.pc, ·) := by
  obtain ⟨-, hexec⟩ := step_next h
  cases habs : (fetchInstr s).absentOpcode with
  | none =>
    obtain ⟨-, -, -, -, -, -, -, hrecord, -⟩ := registerFrame _ _ _ hexec
    exact (hrecord habs).trans (List.append_nil _).symm
  | some op =>
    rw [exec_of_absent habs] at hexec
    cases hexec
    simp only [fetchLatch_faultRecord, fetchLatch_pc, BitVec.add_sub_cancel]
    rfl

/-- Settles O58: a step only adds to the end of the record. -/
theorem stepNeverClearsTheRecord : Obligations.StepNeverClearsTheRecord := by
  unfold Obligations.StepNeverClearsTheRecord
  intro s t h
  exact ⟨_, (step_record h).symm⟩

/-- The host's `step()` reports on the step it makes (70_reset_and_hazards.md R154). -/
theorem hostStep_of_step {s t : State} (h : step s = .next t) : hostStep s = .next (stepReport s, t) := by
  simp only [hostStep, h]

/-- The report of an absent opcode names its byte (60_exceptions.md R134). -/
theorem stepReport_of_absent {s : State} {op : Byte} (h : (fetchInstr s).absentOpcode = some op) :
    stepReport s = .unknownOpcode op := by
  simp only [stepReport, h]

/-- The report of a present opcode is Ok (70_reset_and_hazards.md R154). -/
theorem stepReport_of_present {s : State} (h : (fetchInstr s).absentOpcode = none) : stepReport s = .ok := by
  simp only [stepReport, h]

/-- Settles O17: `exec_of_absent` after Fetch, whose `pc - 1` is the address of the byte. -/
theorem unknownOpcodeChangesIrPcAndRecordOnly : Obligations.UnknownOpcodeChangesIrPcAndRecordOnly := by
  unfold Obligations.UnknownOpcodeChangesIrPcAndRecordOnly
  intro s hs hlen
  have habs := (absentOpcode_fetchInstr s).trans (if_pos hlen)
  have hstep := (step_of_initialized hs).trans (exec_of_absent habs _)
  rw [hostStep_of_step hstep, stepReport_of_absent habs, fetchLatch_pc, BitVec.add_sub_cancel]
  rfl

/-- Settles O18: the step completes (O15), adds nothing to the record (`step_record`), and no executor writes the `ir` that
Fetch latched (O24). -/
theorem recordGrowsOnlyByUnknownOpcodes : Obligations.RecordGrowsOnlyByUnknownOpcodes := by
  unfold Obligations.RecordGrowsOnlyByUnknownOpcodes
  intro s hs hlen
  have hpresent := (absentOpcode_fetchInstr s).trans (if_neg hlen)
  obtain ⟨t, hstep⟩ := everyStepCompletes s hs
  obtain ⟨hir, -⟩ := registerFrame _ _ _ (step_next hstep).2
  refine ⟨t, ?_, ?_, hir⟩
  · rw [hostStep_of_step hstep, stepReport_of_present hpresent]
  · rw [step_record hstep, hpresent]
    exact List.append_nil _

end Sys2Proof.Proofs
end

section
/-! The host's `run()` (70_reset_and_hazards.md R155) is a chain of steps (`exists_hostRun_eq`), which ends where B is set
or the bound is used up; so what every step keeps, every run keeps. -/

namespace Sys2Proof.Proofs

open Sys2Proof.Machine Sys2Proof.Safety

/-! ## What a run does -/

/-- A run of no step with B = 0 is still where it began. -/
theorem hostRun_zero {s : State} (hs : s.initialized = true) (hB : s.flagB = false) :
    hostRun 0 s = .next (.running s) := by
  simp [hostRun, hs, hB]

/-- While B = 0 a run makes a step and goes on from its result (70_reset_and_hazards.md R155). -/
theorem hostRun_succ {s t : State} (k : Nat) (hB : s.flagB = false) (h : step s = .next t) :
    hostRun (k + 1) s = hostRun k t := by
  simp [hostRun, (step_next h).1, hB, h]

/-- The host's view of a run that has come to rest at `t`: returned if B is set there, else running. -/
def restAt (t : State) : RunResult := if t.flagB then .returned t else .running t

/-- With B = 1 the run has returned. -/
theorem restAt_of_break {t : State} (h : t.flagB = true) : restAt t = .returned t :=
  if_pos h

/-- With B = 0 the run is still running. -/
theorem restAt_of_no_break {t : State} (h : t.flagB = false) : restAt t = .running t :=
  if_neg (by simp [h])

/-- A run comes to rest at the state it returned or is running in. -/
theorem eq_of_restAt {t u : State} (h : restAt t = .returned u ∨ restAt t = .running u) : t = u := by
  unfold restAt at h
  split at h <;> simpa using h

/-- A run always answers, and where it comes to rest it came by steps. -/
theorem exists_hostRun_eq (k : Nat) {s : State} (hs : s.initialized = true) :
    ∃ t, hostRun k s = .next (restAt t) ∧ Relation.ReflTransGen (fun a b => step a = .next b) s t := by
  induction k generalizing s with
  | zero =>
    refine ⟨s, ?_, .refl⟩
    cases hB : s.flagB with
    | true => rw [hostRun_of_break 0 hs hB, restAt_of_break hB]
    | false => rw [hostRun_zero hs hB, restAt_of_no_break hB]
  | succ k ih =>
    cases hB : s.flagB with
    | true => exact ⟨s, by rw [hostRun_of_break _ hs hB, restAt_of_break hB], .refl⟩
    | false =>
      obtain ⟨u, hstep⟩ := everyStepCompletes s hs
      obtain ⟨t, hrun, hchain⟩ := ih (stepKeepsTheTableBuilt s u hstep).2
      exact ⟨t, (hostRun_succ k hB hstep).trans hrun, hchain.head hstep⟩

/-- Settles O28: a run is a chain of steps, and each only adds to the record (O58). -/
theorem runNeverClearsTheRecord : Obligations.RunNeverClearsTheRecord := by
  unfold Obligations.RunNeverClearsTheRecord
  intro k s t h
  cases hs : s.initialized with
  | false => simp [hostRun_of_not_initialized k hs] at h
  | true =>
    obtain ⟨u, hrun, hchain⟩ := exists_hostRun_eq k hs
    obtain rfl : u = t := eq_of_restAt (by simpa [hrun] using h)
    clear h hrun
    induction hchain with
    | refl => exact List.prefix_rfl
    | tail _ hstep ih => exact ih.trans (stepNeverClearsTheRecord _ _ hstep)

/-- A run that has returned returns the same state for every larger bound: by induction on the bound, along the steps. -/
theorem hostRun_add_of_returned {k : Nat} (j : Nat) {s t : State} (h : hostRun k s = .next (.returned t)) :
    hostRun (k + j) s = .next (.returned t) := by
  cases hs : s.initialized with
  | false => simp [hostRun_of_not_initialized k hs] at h
  | true =>
    induction k generalizing s with
    | zero =>
      cases hB : s.flagB with
      | true => rwa [hostRun_of_break _ hs hB] at h ⊢
      | false => simp [hostRun_zero hs hB] at h
    | succ k ih =>
      cases hB : s.flagB with
      | true => rwa [hostRun_of_break _ hs hB] at h ⊢
      | false =>
        obtain ⟨u, hstep⟩ := everyStepCompletes s hs
        rw [hostRun_succ k hB hstep] at h
        rw [Nat.succ_add, hostRun_succ (k + j) hB hstep]
        exact ih h (stepKeepsTheTableBuilt s u hstep).2

/-- Settles O27: where a run comes to rest B tells whether it returned, a larger bound does not change what was returned,
and the equations of `hostRun`. -/
theorem runStopsOnlyAtBreak : Obligations.RunStopsOnlyAtBreak := by
  unfold Obligations.RunStopsOnlyAtBreak
  refine ⟨fun k s hs => ?_, fun k j s t => hostRun_add_of_returned j, fun k s => hostRun_of_break k,
    fun s => hostRun_zero, fun k s t => hostRun_succ k⟩
  obtain ⟨t, hrun, -⟩ := exists_hostRun_eq k hs
  cases hB : t.flagB with
  | true => exact .inl ⟨t, by rw [hrun, restAt_of_break hB], hB⟩
  | false => exact .inr ⟨t, by rw [hrun, restAt_of_no_break hB], hB⟩

/-! ## Who sets B -/

/-- The writers of B are BRK and PLP (10_state.md R23). -/
theorem eq_brk_or_plp_of_writesB {i : Instr} (h : writesB i = true) : i = .brk ∨ i = .plp := by
  cases i
  case brk => exact .inl rfl
  case plp => exact .inr rfl
  all_goals cases h

/-- Settles O19: B changes only under one of its writers (O25), and PLP takes it from bit 4 of the pulled byte (O48). -/
theorem onlyBrkOrPlpSetsBreak : Obligations.OnlyBrkOrPlpSetsBreak := by
  unfold Obligations.OnlyBrkOrPlpSetsBreak
  intro s t h hs ht
  obtain ⟨-, hexec⟩ := step_next h
  obtain ⟨-, -, -, -, hframe, -⟩ := flagFrame _ _ _ hexec
  have hwrites : writesB (fetchInstr s) = true := by
    by_contra hnot
    have hkept : t.flagB = s.flagB := hframe (eq_false_of_ne_true hnot)
    simp [hs, ht] at hkept
  refine (eq_brk_or_plp_of_writesB hwrites).imp_right fun hplp => ⟨hplp, ?_⟩
  obtain ⟨-, -, -, hpull⟩ := stackInstructionsMoveBytes (fetchLatch s)
  rw [hplp, hpull] at hexec
  cases hexec
  exact ht

end Sys2Proof.Proofs
end

section
/-! The obligations on the other host operations (70_reset_and_hazards.md): `load_program` first, whose copy loop is said
once for two blocks of any contents, then the vector of `reset()`, `read_byte`, `write_byte` and `initialize()`. -/

namespace Sys2Proof.Proofs

open Sys2Proof.Machine Sys2Proof.Safety

/-! ## The copy loop -/

/-- The two writes of one round of the copy loop each keep the canonical form (70_reset_and_hazards.md R152). -/
theorem wf_write_pair {k : Nat} (b1 b2 : Byte) {m : Memory} (hm : Memory.wf m = true) (hk : k < 0x4000) :
    Memory.wf (Memory.write m (0x8000 + k) b1) = true ∧
      Memory.wf (Memory.write (Memory.write m (0x8000 + k) b1) (0xC000 + k) b2) = true := by
  have hfirst := Memory.wfFrom_write (v := b1) hm (Nat.zero_le (0x8000 + k)) (by omega)
  exact ⟨hfirst, Memory.wfFrom_write hfirst (Nat.zero_le _) (by omega)⟩

/-- The copy loop keeps the canonical form while its addresses are below 65536 (20_memory.md R35). -/
theorem wf_loadBlocks {k : Nat} {first : List Byte} (second : List Byte) {m : Memory} (hm : Memory.wf m = true)
    (hk : k + first.length ≤ 0x4000) : Memory.wf (loadBlocks k first second m) = true := by
  induction first generalizing k second m with
  | nil => exact hm
  | cons b1 rest1 ih =>
    cases second with
    | nil => exact hm
    | cons b2 rest2 =>
      rw [List.length_cons] at hk
      obtain ⟨-, hm'⟩ := wf_write_pair b1 b2 hm (by omega : k < 0x4000)
      exact ih rest2 hm' (by omega)

/-- The copy loop writes nothing between the end of the first place and the next byte of the second
(70_reset_and_hazards.md R152). -/
theorem read_loadBlocks_between {a k : Nat} {first : List Byte} (second : List Byte) (m : Memory)
    (hlo : 0x8000 + k + first.length ≤ a) (hhi : a < 0xC000 + k) :
    Memory.read (loadBlocks k first second m) a = Memory.read m a := by
  induction first generalizing k second m with
  | nil => rfl
  | cons b1 rest1 ih =>
    cases second with
    | nil => rfl
    | cons b2 rest2 =>
      rw [List.length_cons] at hlo
      rw [loadBlocks, ih rest2 _ (by omega) (by omega), Memory.read_write_other (by omega),
        Memory.read_write_other (by omega)]

/-- The copy loop leaves the bytes of the two blocks in their places, which do not overlap (70_reset_and_hazards.md R152). -/
theorem read_loadBlocks {k i : Nat} {first second : List Byte} {m : Memory} (hm : Memory.wf m = true)
    (hk : k + first.length ≤ 0x4000) (hlen : second.length = first.length) (hi : i < first.length) :
    Memory.read (loadBlocks k first second m) (0x8000 + (k + i)) = first.getD i 0 ∧
      Memory.read (loadBlocks k first second m) (0xC000 + (k + i)) = second.getD i 0 := by
  induction first generalizing k i second m with
  | nil => exact absurd hi (Nat.not_lt_zero i)
  | cons b1 rest1 ih =>
    cases second with
    | nil => cases hlen
    | cons b2 rest2 =>
      simp only [List.length_cons] at hk hlen hi
      obtain ⟨hfirst, hsecond⟩ := wf_write_pair b1 b2 hm (by omega : k < 0x4000)
      rw [loadBlocks]
      cases i with
      | zero =>
        simp only [Nat.add_zero]
        constructor
        · rw [read_loadBlocks_below _ _ _ _ (by omega), Memory.read_write_other (by omega), Memory.read_write_same hm]
          rfl
        · rw [read_loadBlocks_between _ _ (by omega) (by omega), Memory.read_write_same hfirst]
          rfl
      | succ i =>
        have hnext : k + (i + 1) = k + 1 + i := by omega
        rw [hnext]
        exact ih hsecond (by omega) (by omega) (by omega)

/-! ## `load_program` -/

/-- The state with two blocks copied to their places (70_reset_and_hazards.md R152). -/
def withBlocks (first second : List Byte) (s : State) : State := { s with mem := loadBlocks 0 first second s.mem }

/-- One block goes to both places. -/
theorem loadProgram_one {bytes : List Byte} (s : State) (h : bytes.length = 16384) :
    loadProgram bytes 1 s = .next (withBlocks bytes bytes s) :=
  if_pos ⟨rfl, h⟩

/-- Two blocks go one after the other. -/
theorem loadProgram_two {bytes : List Byte} (s : State) (h : bytes.length = 32768) :
    loadProgram bytes 2 s = .next (withBlocks (bytes.take 16384) (bytes.drop 16384) s) :=
  (if_neg (by simp)).trans (if_pos ⟨rfl, h⟩)

/-- Any other call is refused. -/
theorem loadProgram_refused {bytes : List Byte} {n : Nat} (s : State) (h1 : ¬ (n = 1 ∧ bytes.length = 16384))
    (h2 : ¬ (n = 2 ∧ bytes.length = 32768)) : loadProgram bytes n s = .refused .loadProgramArguments :=
  (if_neg h1).trans (if_neg h2)

/-- A call that completes had one block or two (70_reset_and_hazards.md R152). -/
theorem loadProgram_next {bytes : List Byte} {n : Nat} {s t : State} (h : loadProgram bytes n s = .next t) :
    n = 1 ∧ bytes.length = 16384 ∧ t = withBlocks bytes bytes s ∨
      n = 2 ∧ bytes.length = 32768 ∧ t = withBlocks (bytes.take 16384) (bytes.drop 16384) s := by
  unfold loadProgram at h
  split at h
  next hone =>
    cases h
    exact .inl ⟨hone.1, hone.2, rfl⟩
  next =>
    split at h
    next htwo =>
      cases h
      exact .inr ⟨htwo.1, htwo.2, rfl⟩
    next => cases h

/-- Copying up to 16384 bytes to each place keeps the canonical form. -/
theorem canonical_withBlocks {first : List Byte} (second : List Byte) {s : State} (hs : Canonical s)
    (h : first.length ≤ 16384) : Canonical (withBlocks first second s) :=
  wf_loadBlocks second hs (by omega)

/-- Bytes below 0x8000 are as they were (70_reset_and_hazards.md R152). -/
theorem memRead_withBlocks_below (first second : List Byte) (s : State) {a : Word} (ha : a.toNat < 0x8000) :
    memRead (withBlocks first second s) a = memRead s a :=
  read_loadBlocks_below 0 first second s.mem ha

/-- The two places hold the two blocks (70_reset_and_hazards.md R152). -/
theorem memRead_withBlocks {first second : List Byte} {s : State} {k : Nat} (hs : Canonical s)
    (h1 : first.length = 16384) (h2 : second.length = 16384) (hk : k < 16384) :
    memRead (withBlocks first second s) (BitVec.ofNat 16 (0x8000 + k)) = first.getD k 0 ∧
      memRead (withBlocks first second s) (BitVec.ofNat 16 (0xC000 + k)) = second.getD k 0 := by
  have hread := read_loadBlocks (k := 0) (i := k) hs (by omega) (h2.trans h1.symm) (by omega)
  rw [Nat.zero_add] at hread
  have hlo : (BitVec.ofNat 16 (0x8000 + k)).toNat = 0x8000 + k := Nat.mod_eq_of_lt (by omega)
  have hhi : (BitVec.ofNat 16 (0xC000 + k)).toNat = 0xC000 + k := Nat.mod_eq_of_lt (by omega)
  simpa only [memRead, hlo, hhi, withBlocks] using hread

/-- Settles O8: `memRead_withBlocks` and `memRead_withBlocks_below` for one block twice and for two blocks, and
`loadProgram_refused`. -/
theorem loadProgramCopiesTheBlocks : Obligations.LoadProgramCopiesTheBlocks := by
  unfold Obligations.LoadProgramCopiesTheBlocks
  intro s bytes hs
  refine ⟨fun hlen => ?_, fun hlen => ?_, fun n => loadProgram_refused s⟩
  · exact ⟨_, loadProgram_one s hlen, rfl, fun k => memRead_withBlocks hs hlen hlen,
      fun a => memRead_withBlocks_below _ _ s⟩
  · refine ⟨_, loadProgram_two s hlen, rfl, fun k hk => ?_, fun a => memRead_withBlocks_below _ _ s⟩
    have htake : (bytes.take 16384).getD k 0 = bytes.getD k 0 := by simp [List.getD, hk]
    have hdrop : (bytes.drop 16384).getD k 0 = bytes.getD (16384 + k) 0 := by simp [List.getD]
    rw [← htake, ← hdrop]
    exact memRead_withBlocks hs (by simp [hlen]) (by simp [hlen]) hk

/-- Settles O5: `write_byte` is one write, and `load_program` copies at most 16384 bytes to each place. -/
theorem hostOperationsKeepMemoryCanonical : Obligations.HostOperationsKeepMemoryCanonical := by
  unfold Obligations.HostOperationsKeepMemoryCanonical
  refine ⟨fun s a v hs => canonical_memWrite a v hs, fun bytes n s t hs h => ?_⟩
  obtain ⟨-, hlen, rfl⟩ | ⟨-, -, rfl⟩ := loadProgram_next h
  · exact canonical_withBlocks _ hs hlen.le
  · exact canonical_withBlocks _ hs (List.length_take_le _ _)

/-! ## `reset()`, `read_byte`, `write_byte`, `initialize()` -/

/-- Settles O1: the vector is the 16-bit read at 0xFFFC, and after a one-block load its two bytes are those that
`memRead_withBlocks` finds at the end of the second place. -/
theorem resetLoadsOnlyThePc : Obligations.ResetLoadsOnlyThePc := by
  unfold Obligations.ResetLoadsOnlyThePc
  refine ⟨fun s => rfl, fun bytes s t hs h => ?_⟩
  obtain ⟨-, hlen, rfl⟩ | ⟨hcount, -⟩ := loadProgram_next h
  · obtain ⟨-, hlow⟩ := memRead_withBlocks (k := 0x3FFC) hs hlen hlen (by decide)
    obtain ⟨-, hhigh⟩ := memRead_withBlocks (k := 0x3FFD) hs hlen hlen (by decide)
    exact congrArg₂ word16 hhigh hlow
  · cases hcount

/-- Settles O7: by definition these are `MemRead` and `MemWrite`, whose laws are O6. -/
theorem hostReadsAndWritesBytes : Obligations.HostReadsAndWritesBytes := by
  unfold Obligations.HostReadsAndWritesBytes
  intro s a v
  obtain ⟨hother, hsame, hframe⟩ := memoryReturnsTheLastWrite s a v
  exact ⟨rfl, rfl, hsame, hother, hframe⟩

/-- Settles O56: `initialize()` is, by its definition, the update of the mark alone, and without the mark a step is refused,
so the host's step and its run are. -/
theorem initializePrecedesEveryStep : Obligations.InitializePrecedesEveryStep := by
  unfold Obligations.InitializePrecedesEveryStep
  refine ⟨fun s => rfl, fun s => rfl, fun s hs => ?_⟩
  have hstep := step_of_not_initialized hs
  exact ⟨hstep, by simp only [hostStep, hstep], fun k => hostRun_of_not_initialized k hs⟩

end Sys2Proof.Proofs
end
